-- ==== Sys2Proof/Word.lean ====
section
/-! DEFINITION. The word types of the RS-bus pulse-cycle synchronizer (`00_scope.md` R6, R7). Every value of the
hardware is unsigned; a bit vector is used exactly where the spec numbers the bits of a value or gives it a width. -/

namespace Sys2Proof

/-- A byte: an address register, a FrameByte, an error counter, the response port (R6 `ADDR_W`, `ERRCNT_W`, `FEC_W`). -/
abbrev Byte := BitVec 8

/-- A 4-bit feedback payload, and the data field of a FrameByte (R81, R101). -/
abbrev Nibble := BitVec 4

/-- An event word, format `evt32` (R87). -/
abbrev EventWord := BitVec 32

/-- A pulse count (`PULSECNT_W` = 16, R6, R23). -/
abbrev PulseNumber := BitVec 16

/-- The `conn` field of an event word: a connection number, 0 to 15 (R87). -/
abbrev ConnId := BitVec 4

end Sys2Proof
end

