-- ==== Sys2Proof/Syntax.lean ====
section
/-! DEFINITION. The instruction syntax: one constructor for each row of `spec/opcode_table.json` (`30_encoding.md`
R80, R81, R87, R88). The ten events are the spec's "instructions" (R5); the four FRAME rows are the patterns of the
FrameByte. -/

namespace Sys2Proof

/-- A connection's device type: 0 = `Switch`, 1 = `Feedback` (R31, R89). -/
inductive DeviceType where
  | switch
  | feedback
deriving DecidableEq, Repr

/-- A nibble position: 0 = `Low`, 1 = `High` (R89, R101). -/
inductive Position where
  | low
  | high
deriving DecidableEq, Repr

/-- The rows of the opcode table. Operands are those of R89; a FRAME row keeps its parity bit `P` and its data bits
`D3 D2 D1 D0` as they stand in the byte (R81). -/
inductive Instr where
  | pulse
  | tick
  | poll (c : ConnId)
  | cfg (c : ConnId) (address : Byte) (deviceType : DeviceType) (fecFactor : Byte)
  | req4 (c : ConnId) (position : Position) (bits : Nibble)
  | req8 (c : ConnId) (byte : Byte)
  | rdfb (c : ConnId)
  | rdok
  | rdpar
  | rdpce
  | frameSwLo (p : Bool) (d : Nibble)
  | frameSwHi (p : Bool) (d : Nibble)
  | frameFbLo (p : Bool) (d : Nibble)
  | frameFbHi (p : Bool) (d : Nibble)
deriving DecidableEq, Repr

/-- An encoded item: a word of one of the two formats (R80). Both formats are of fixed length and no mode bit changes
decoding, so the format is known before the bits are looked at. -/
inductive Code where
  /-- An event word, format `evt32` (R87). -/
  | evt32 (w : EventWord)
  /-- A FrameByte, format `frame8` (R81). -/
  | frame8 (b : Byte)
deriving DecidableEq, Repr

/-- The connection an event is addressed to, for the events that use `conn` (R88). -/
def Instr.conn : Instr → Option ConnId
  | .pulse => none
  | .tick => none
  | .poll c => some c
  | .cfg c _ _ _ => some c
  | .req4 c _ _ => some c
  | .req8 c _ => some c
  | .rdfb c => some c
  | .rdok => none
  | .rdpar => none
  | .rdpce => none
  | .frameSwLo _ _ => none
  | .frameSwHi _ _ => none
  | .frameFbLo _ _ => none
  | .frameFbHi _ _ => none

end Sys2Proof
end

