-- ==== Sys2Proof/Decode.lean ====
section
/-! DEFINITION. The decoder and the encoder of the two formats (`30_encoding.md` R80 to R90). Decoding is total and
rejects by name; the encoder writes the canonical word, with the fields an event does not use at zero (R89). -/

namespace Sys2Proof

/-- Why a word names no row of the opcode table. -/
inductive DecodeError where
  /-- An event word whose `op` is `0x0` or `0xB` to `0xF` (R88, R90). -/
  | reservedOp (op : BitVec 4)
  /-- A byte whose type bits are `00` or `11`: no FrameByte (R86). -/
  | reservedTypeBits (tt : BitVec 2)
deriving DecidableEq, Repr

/-- `deviceType = b[0]`: 0 = `Switch`, 1 = `Feedback` (R89). -/
def DeviceType.ofBit (b : Bool) : DeviceType := if b then .feedback else .switch

/-- The bit that stands for a device type (R31, R89). -/
def DeviceType.toBit : DeviceType → Bool
  | .switch => false
  | .feedback => true

/-- `position = b[0]`: 0 = `Low`, 1 = `High` (R89). -/
def Position.ofBit (b : Bool) : Position := if b then .high else .low

/-- The bit that stands for a nibble position (R89). -/
def Position.toBit : Position → Bool
  | .low => false
  | .high => true

/-- Field `op`, bits 31:28 of an event word (R87). -/
def opField (w : EventWord) : BitVec 4 := w.extractLsb' 28 4

/-- Field `conn`, bits 27:24 (R87). -/
def connField (w : EventWord) : ConnId := w.extractLsb' 24 4

/-- Operand byte `a`, bits 23:16 (R87). -/
def aField (w : EventWord) : Byte := w.extractLsb' 16 8

/-- Operand byte `b`, bits 15:8 (R87). -/
def bField (w : EventWord) : Byte := w.extractLsb' 8 8

/-- Operand byte `c`, bits 7:0 (R87). -/
def cField (w : EventWord) : Byte := w.extractLsb' 0 8

/-- The event an event word stands for (R88), its operands assembled as R89 says; fields an event does not use are
ignored. -/
def decodeEvent (w : EventWord) : Except DecodeError Instr :=
  match opField w with
  | 0x1#4 => .ok .pulse
  | 0x2#4 => .ok .tick
  | 0x3#4 => .ok (.poll (connField w))
  | 0x4#4 => .ok (.cfg (connField w) (aField w) (DeviceType.ofBit ((bField w).getLsbD 0)) (cField w))
  | 0x5#4 => .ok (.req4 (connField w) (Position.ofBit ((bField w).getLsbD 0)) ((cField w).extractLsb' 0 4))
  | 0x6#4 => .ok (.req8 (connField w) (cField w))
  | 0x7#4 => .ok (.rdfb (connField w))
  | 0x8#4 => .ok .rdok
  | 0x9#4 => .ok .rdpar
  | 0xA#4 => .ok .rdpce
  | op => .error (.reservedOp op)

/-- The frame pattern a byte fits: `P` bit 7, `TT1 TT0` bits 6:5, `N` bit 4, `D3..D0` bits 3:0 (R81), with the type
bits and the nibble-select of the table's rows (`TT_SWITCH` = 01, `TT_FEEDBACK` = 10, `NSEL_LOW` = 0, R6;
log entry 14). -/
def decodeFrame (b : Byte) : Except DecodeError Instr :=
  let p := b.getLsbD 7
  let d := b.extractLsb' 0 4
  match b.extractLsb' 4 3 with
  | 0b010#3 => .ok (.frameSwLo p d)
  | 0b011#3 => .ok (.frameSwHi p d)
  | 0b100#3 => .ok (.frameFbLo p d)
  | 0b101#3 => .ok (.frameFbHi p d)
  | _ => .error (.reservedTypeBits (b.extractLsb' 5 2))

/-- The decoder of both formats (R80). -/
def decode : Code → Except DecodeError Instr
  | .evt32 w => decodeEvent w
  | .frame8 b => decodeFrame b

/-- The event word with the given fields (R87). -/
def eventWord (op : BitVec 4) (conn : ConnId) (a b c : Byte) : EventWord := op ++ conn ++ a ++ b ++ c

/-- An operand byte whose bit 0 is `v` and whose other bits are zero (R89). -/
def bitByte (v : Bool) : Byte := (BitVec.ofBool v).zeroExtend 8

/-- The byte with the given fields `P`, `{TT1, TT0, N}` and `{D3, D2, D1, D0}` (R81). -/
def frameByte (p : Bool) (ttn : BitVec 3) (d : Nibble) : Byte := BitVec.ofBool p ++ ttn ++ d

/-- The canonical code of an instruction (R88, R89, R92; the FRAME rows by R81). -/
def encode : Instr → Code
  | .pulse => .evt32 (eventWord 0x1#4 0#4 0#8 0#8 0#8)
  | .tick => .evt32 (eventWord 0x2#4 0#4 0#8 0#8 0#8)
  | .poll c => .evt32 (eventWord 0x3#4 c 0#8 0#8 0#8)
  | .cfg c address deviceType fecFactor => .evt32 (eventWord 0x4#4 c address (bitByte deviceType.toBit) fecFactor)
  | .req4 c position bits => .evt32 (eventWord 0x5#4 c 0#8 (bitByte position.toBit) (bits.zeroExtend 8))
  | .req8 c byte => .evt32 (eventWord 0x6#4 c 0#8 0#8 byte)
  | .rdfb c => .evt32 (eventWord 0x7#4 c 0#8 0#8 0#8)
  | .rdok => .evt32 (eventWord 0x8#4 0#4 0#8 0#8 0#8)
  | .rdpar => .evt32 (eventWord 0x9#4 0#4 0#8 0#8 0#8)
  | .rdpce => .evt32 (eventWord 0xA#4 0#4 0#8 0#8 0#8)
  | .frameSwLo p d => .frame8 (frameByte p 0b010#3 d)
  | .frameSwHi p d => .frame8 (frameByte p 0b011#3 d)
  | .frameFbLo p d => .frame8 (frameByte p 0b100#3 d)
  | .frameFbHi p d => .frame8 (frameByte p 0b101#3 d)

/-- The lines of the trace syntax, one for an event, numbers in decimal (R92). A FrameByte is no event and has no
line. -/
def Instr.line : Instr → Option String
  | .pulse => some "PULSE"
  | .tick => some "TICK"
  | .poll c => some ("POLL " ++ toString c.toNat)
  | .cfg c address deviceType fecFactor =>
    some ("CFG " ++ toString c.toNat ++ ", " ++ toString address.toNat ++ ", " ++ toString deviceType.toBit.toNat ++ ", "
      ++ toString fecFactor.toNat)
  | .req4 c position bits =>
    some ("REQ4 " ++ toString c.toNat ++ ", " ++ toString position.toBit.toNat ++ ", " ++ toString bits.toNat)
  | .req8 c byte => some ("REQ8 " ++ toString c.toNat ++ ", " ++ toString byte.toNat)
  | .rdfb c => some ("RDFB " ++ toString c.toNat)
  | .rdok => some "RDOK"
  | .rdpar => some "RDPAR"
  | .rdpce => some "RDPCE"
  | .frameSwLo _ _ => none
  | .frameSwHi _ _ => none
  | .frameFbLo _ _ => none
  | .frameFbHi _ _ => none

/-- The bits of an event word that the decoder reads, by `op`: the fields R88's table and R89 give the event. -/
def usedBits (op : BitVec 4) : EventWord :=
  match op with
  | 0x3#4 => 0xFF000000#32
  | 0x4#4 => 0xFFFF01FF#32
  | 0x5#4 => 0xFF00010F#32
  | 0x6#4 => 0xFF0000FF#32
  | 0x7#4 => 0xFF000000#32
  | _ => 0xF0000000#32

/-- An instruction as the opcode table numbers its bits: a row of 8 bits is a `frame8`, a row of 32 bits an `evt32`,
and bit 0 is the least significant bit of either (R7, R80). -/
def Code.ofTable (nbits w : Nat) : Code :=
  if nbits ≤ 8 then .frame8 (BitVec.ofNat 8 w) else .evt32 (BitVec.ofNat 32 w)

/-- The instruction the decoder reads from a word of the opcode table, none where it refuses. -/
def decodeTableWord (nbits w : Nat) : Option Instr :=
  match decode (Code.ofTable nbits w) with
  | .ok i => some i
  | .error _ => none

end Sys2Proof
end

