-- ==== Sys2Proof/Config.lean ====
section
/-! DEFINITION. The implementation parameters of `00_scope.md` R6. The parameters the spec fixes are constants with
the spec's value. The parameters the spec marks OPEN are opaque constants: nothing in Lean can evaluate them, so a
claim about the machine after reset holds for every value of them (DESIGN CHOICE, safe: log entries 1 and 2). -/

namespace Sys2Proof

/-- A retransmission-trigger policy: "never / only-if-just-transmitted / always" (R152, U1, U2). -/
inductive Policy where
  | never
  | ifJustTransmitted
  | always
deriving DecidableEq, Repr, Inhabited

/-- When a byte placed in the pending-byte slot becomes sendable (R28, U4). -/
inductive ArmPolicy where
  | immediate
  | boundary
deriving DecidableEq, Repr, Inhabited

/-- The parameters a meaning reads from the state it runs in. No event changes them (R37); they stand in State only
because `step` takes no other argument (DESIGN CHOICE, safe: log entry 1). -/
structure Params where
  /-- `POLICY_PULSECOUNT`, OPEN (R6, U1). -/
  policyPulseCount : Policy
  /-- `POLICY_PARITY`, OPEN (R6, U2). -/
  policyParity : Policy
  /-- `ARM_POLICY`, OPEN (R6, U4). -/
  armPolicy : ArmPolicy
  /-- `TT_SWITCH`, the type bits TT1 TT0 of a "switch with feedback" (R83, U15). -/
  ttSwitch : BitVec 2
  /-- `TT_FEEDBACK`, the type bits TT1 TT0 of a "feedback-only module" (R83, U15). -/
  ttFeedback : BitVec 2
  /-- `NSEL_LOW`, the nibble-select bit of a low nibble (R84, U16). -/
  nselLow : BitVec 1
  /-- `NSEL_HIGH`, the nibble-select bit of a high nibble (R84, U16). -/
  nselHigh : BitVec 1
  /-- `SINK_MIRROR` (R95, U14). -/
  sinkMirror : Bool
deriving DecidableEq, Repr

/-- `POLICY_PULSECOUNT` of the machine after reset: OPEN, so uninterpreted (R6, D19; DESIGN CHOICE, safe: log entry 2). -/
opaque Config.policyPulseCount : Policy

/-- `POLICY_PARITY` of the machine after reset: OPEN, so uninterpreted (R6, D19; DESIGN CHOICE, safe: log entry 2). -/
opaque Config.policyParity : Policy

/-- `ARM_POLICY` of the machine after reset: OPEN, so uninterpreted (R6, D18; DESIGN CHOICE, safe: log entry 2). -/
opaque Config.armPolicy : ArmPolicy

/-- The number of the last connection: OPEN, so uninterpreted, and below 16 by its type (R6, D4; DESIGN CHOICE, safe: log entry 2). -/
opaque Config.lastConnection : Fin 16

/-- `NCONN` of the machine after reset: some number from 1 to 16 (R6, D4). -/
def Config.nconn : Nat := Config.lastConnection.val + 1

/-- The parameters of the machine after reset: the OPEN ones uninterpreted, the others as the table of R6 has them.
The values of `TT_SWITCH`, `TT_FEEDBACK`, `NSEL_LOW` and `NSEL_HIGH` are the spec's from general knowledge (G1, G2;
PRESUMED, unsafe: log entry 3). -/
def Config.params : Params where
  policyPulseCount := Config.policyPulseCount
  policyParity := Config.policyParity
  armPolicy := Config.armPolicy
  ttSwitch := 0b01#2
  ttFeedback := 0b10#2
  nselLow := 0#1
  nselHigh := 1#1
  sinkMirror := false

/-- `QCAP`: the capacity of a transmit queue, in FrameBytes (R6, D10). -/
def Config.qcap : Nat := 16

/-- `CYCLE_PULSES`: the pulses of one good polling cycle (R6, D20). -/
def Config.cyclePulses : PulseNumber := 130#16

/-- `ADDR_MIN`: the lowest address that transmits (R6). -/
def Config.addrMin : Nat := 1

/-- `ADDR_MAX`: the highest address that transmits (R6). -/
def Config.addrMax : Nat := 128

/-- `W_BOUNDARY`: the idle window that decides the end of a cycle (R6, R144). -/
def Config.wBoundary : Nat := 3

/-- `W_PARITY`: the idle window that counts a parity error (R6, R148). -/
def Config.wParity : Nat := 5

/-- `W_LOSS`: the idle window that declares signal loss (R6, R149). -/
def Config.wLoss : Nat := 7

/-- `W_SAT`: the value at which `idleWindowCount` stops counting (R6, D15). -/
def Config.wSat : Nat := 8

/-- `POP_SENTINEL`: the byte `Pop` returns on an empty queue (R6, R111, D11). -/
def Config.popSentinel : Byte := 0x00#8

end Sys2Proof
end

