-- ==== Sys2Proof/Machine/State.lean ====
section
/-! DEFINITION. The state of the block (`10_state.md` R20 to R42), as plain data, and the state after reset. -/

namespace Sys2Proof.Machine

/-- The five values of `conn[c].state`, in the source's order (R33). -/
inductive ConnState where
  | unsynchronized
  | feedbackNeeded
  | sendingNibble1
  | sendingNibble2
  | connected
deriving DecidableEq, Repr

/-- One connection record (R30 to R35). -/
structure Connection where
  /-- `conn[c].address`, 8 bits (R30). -/
  address : Byte
  /-- `conn[c].deviceType`, 1 bit (R31). -/
  deviceType : DeviceType
  /-- `conn[c].fecFactor`, 8 bits (R32). -/
  fecFactor : Byte
  /-- `conn[c].state` (R33). -/
  state : ConnState
  /-- `conn[c].feedbackRequested`, 1 bit (R34). -/
  feedbackRequested : Bool
  /-- `conn[c].queue`: the transmit queue, oldest entry first (R35). -/
  queue : List Byte
deriving DecidableEq, Repr

/-- A connection after reset (R42, R200). -/
def Connection.reset : Connection where
  address := 0#8
  deviceType := .switch
  fecFactor := 0#8
  state := .unsynchronized
  feedbackRequested := false
  queue := []

/-- What the pending-byte slot holds when it is occupied: `slotAddr` and `slotFrame`, always written together
(R27, R65). -/
structure Slot where
  addr : Byte
  frame : Byte
deriving DecidableEq, Repr

/-- One entry `(n, b)` of `sinkTrace`: the byte handed to ByteSink and the pulse count at that moment (R36, R72). -/
structure Sent where
  pulse : PulseNumber
  byte : Byte
deriving DecidableEq, Repr

/-- What reaches the block from outside: the `rst` input (R71, R200), or one item of the event stream (R5, R71). -/
inductive Arrival where
  | rst
  | code (c : Code)
deriving DecidableEq, Repr

/-- The ghost label of a tick (R155). It is no field of the state and no output. -/
inductive Classification where
  | none
  | cycleOk
  | pulseCountError
  | parityError
  | signalLoss
deriving DecidableEq, Repr

/-- The reasons a step can stop the machine: there are none. "there is no concept of an unrecoverable fault in this
subsystem" (R180, R220), and no access can fail, so nobody raises a fault. -/
inductive Fault : Type
deriving DecidableEq, Repr

/-- The reasons a step can be refused. -/
inductive Refusal where
  /-- Raised by an arm of `exec` whose instruction has no meaning yet; no arm of this model does. Safe: the machine
  goes no further. -/
  | notModelled (mnemonic : String)
deriving DecidableEq, Repr

/-- The state of the machine. Every field but the last three is the spec's (R20 to R36). -/
structure State where
  /-- `signalIsOk`, 1 bit (R21). -/
  signalIsOk : Bool
  /-- `idleWindowCount`, 8 bits, values 0 to 8 (R22). -/
  idleWindowCount : Byte
  /-- `pulseCount`, 16 bits (R23). -/
  pulseCount : PulseNumber
  /-- `prevPulseCount`, 16 bits (R24). -/
  prevPulseCount : PulseNumber
  /-- `parityErrorCount`, 8 bits, modulo 256 (R25). -/
  parityErrorCount : Byte
  /-- `pulseCountErrorCount`, 8 bits, modulo 256 (R26). -/
  pulseCountErrorCount : Byte
  /-- The pending-byte slot: `some` is `slotValid = 1`, `none` is `slotValid = 0`, where `slotAddr` and `slotFrame`
  hold no value (R27; DEDUCED, safe: log entry 9). -/
  slot : Option Slot
  /-- `slotArmed`, 1 bit (R28). -/
  slotArmed : Bool
  /-- `byteWasSent`, 1 bit (R29). -/
  byteWasSent : Bool
  /-- The connection records, `conn[0]` to `conn[NCONN - 1]`: the length of the list is `NCONN` (R20, R198;
  DESIGN CHOICE, safe: log entry 10). -/
  conns : List Connection
  /-- `sinkTrace`: the bytes handed to ByteSink, oldest first (R36). -/
  sinkTrace : List Sent
  /-- The MODEL's: the response port, the byte the latest event returned (R71, R94; DESIGN CHOICE, unsafe: log entry 5). -/
  rsp : Byte
  /-- The MODEL's: what has reached the block and not yet been taken, oldest first (R5, R66, R67; DESIGN CHOICE, unsafe: log entry 4). -/
  arrivals : List Arrival
  /-- The MODEL's: the parameters of R6; no event changes them (R37; DESIGN CHOICE, safe: log entry 1). -/
  params : Params
deriving DecidableEq, Repr

/-- `NCONN`: the number of connection records (R6, R20). -/
def State.nconn (s : State) : Nat := s.conns.length

/-- The machine right after reset (R42, R200), with nothing arrived. -/
def State.reset : State where
  signalIsOk := false
  idleWindowCount := 0#8
  pulseCount := 0#16
  prevPulseCount := 0#16
  parityErrorCount := 0#8
  pulseCountErrorCount := 0#8
  slot := none
  slotArmed := false
  byteWasSent := false
  conns := List.replicate Config.nconn Connection.reset
  sinkTrace := []
  rsp := 0x00#8
  arrivals := []
  params := Config.params

end Sys2Proof.Machine
end

