-- ==== Sys2Proof/Machine/Operands.lean ====
section
/-! DEFINITION. How an event names its operands and reaches the registers: the bit reversals (R95, R100), the fields a
connection selects (R83, R84), the connection records (R8, R90) and the range test of an address (R130). -/

namespace Sys2Proof.Machine

/-- `rev4(v) = {v[0], v[1], v[2], v[3]}` (R100). -/
def rev4 (v : Nibble) : Nibble :=
  BitVec.ofBool (v.getLsbD 0) ++ BitVec.ofBool (v.getLsbD 1) ++ BitVec.ofBool (v.getLsbD 2) ++ BitVec.ofBool (v.getLsbD 3)

/-- `mirror8(v)`: the byte with the bit order of `v` reversed (R95). -/
def mirror8 (v : Byte) : Byte := rev4 (v.extractLsb' 0 4) ++ rev4 (v.extractLsb' 4 4)

/-- The low nibble `x[3:0]` of a payload (R102). -/
def lowNibble (x : Byte) : Nibble := x.extractLsb' 0 4

/-- The high nibble `x[7:4]` of a payload (R102). -/
def highNibble (x : Byte) : Nibble := x.extractLsb' 4 4

/-- `zext_8` of a flag: `0x00` or `0x01` (R7, R94). -/
def flagByte (b : Bool) : Byte := if b then 0x01#8 else 0x00#8

/-- `{TT1, TT0}` of a device type (R83). -/
def typeBits (p : Params) : DeviceType → BitVec 2
  | .switch => p.ttSwitch
  | .feedback => p.ttFeedback

/-- `N` of a nibble position (R84). -/
def nibbleSelect (p : Params) : Position → BitVec 1
  | .low => p.nselLow
  | .high => p.nselHigh

/-- The range test of `TRYHANDOFF`: `1 <= address` and `address <= 128` (R30, R130). -/
def addressInRange (a : Byte) : Bool := decide (Config.addrMin ≤ a.toNat) && decide (a.toNat ≤ Config.addrMax)

/-- `conn[c]`, none where `c >= NCONN` (R8, R90). -/
def State.connAt (s : State) (c : ConnId) : Option Connection := s.conns[c.toNat]?

/-- `conn[c] <- k` (R8). -/
def State.setConn (s : State) (c : ConnId) (k : Connection) : State := { s with conns := s.conns.set c.toNat k }

end Sys2Proof.Machine
end

