-- ==== Sys2Proof/Machine/Flags.lean ====
section
/-! DEFINITION. Every flag computation of the spec: the parity bit of a FrameByte (R82) and the five 1-bit elements of
R39 (`signalIsOk`, the slot's occupancy, `slotArmed`, `byteWasSent`, `feedbackRequested`). -/

namespace Sys2Proof.Machine

/-- `popcount(v)`: the number of bits of `v` that are 1 (R7). -/
def popcount {w : Nat} (v : BitVec w) : Nat := ((List.range w).filter fun i => v.getLsbD i).length

/-- `P = popcount(body) mod 2`, so that the set-bit count of the whole byte is even (R82). -/
def parityBit {w : Nat} (body : BitVec w) : Bool := popcount body % 2 == 1

/-- `signalIsOk <- b`: written only by `TICK` (R21, R39). -/
def State.setSignalIsOk (s : State) (b : Bool) : State := { s with signalIsOk := b }

/-- `byteWasSent <- b` (R29, R161). -/
def State.setByteWasSent (s : State) (b : Bool) : State := { s with byteWasSent := b }

/-- Whether a policy triggers: `Always`, or `IfJustTransmitted` with `byteWasSent` = 1 (R152, R153). -/
def State.triggers (s : State) : Policy → Bool
  | .never => false
  | .ifJustTransmitted => s.byteWasSent
  | .always => true

/-- `ApplyPolicy(p)`: `signalIsOk <- 0` when the policy triggers, and nothing else (R152). -/
def State.applyPolicy (s : State) (p : Policy) : State := if s.triggers p then s.setSignalIsOk false else s

/-- "if a byte is queued for transmission, arm the pending-byte slot for the upcoming cycle" (R144). -/
def State.armIfHeld (s : State) : State := if s.slot.isSome then { s with slotArmed := true } else s

/-- Whether `TRYHANDOFF` sets `slotArmed`: `(ARM_POLICY == Immediate) ? 1 : 0` (R28, R130). -/
def armedOnFill (p : Params) : Bool := p.armPolicy == .immediate

/-- `slotValid <- 0 ; slotArmed <- 0` (R27, R28). -/
def State.emptySlot (s : State) : State := { s with slot := none, slotArmed := false }

/-- Fill the slot and set `slotArmed` as the policy says, as one unit (R64, R130). -/
def State.fillSlot (s : State) (x : Slot) : State := { s with slot := some x, slotArmed := armedOnFill s.params }

end Sys2Proof.Machine
end

