-- ==== Sys2Proof/Machine/FrameEncoder.lean ====
section
/-! DEFINITION. The frame encoder (`40_frame_encoder.md` R100 to R103) and the frame space (R86). Its operations are
internal: only `REQ4` and `REQ8` use them. -/

namespace Sys2Proof.Machine

/-- The seven low bits `{tt, n, rev4(v)}` of a frame (R101). -/
def frameBody (p : Params) (pos : Position) (v : Nibble) (t : DeviceType) : BitVec 7 :=
  typeBits p t ++ nibbleSelect p pos ++ rev4 v

/-- `ENCNIB(pos, v, t)` (R101). -/
def encNib (p : Params) (pos : Position) (v : Nibble) (t : DeviceType) : Byte :=
  BitVec.ofBool (parityBit (frameBody p pos v t)) ++ frameBody p pos v t

/-- `ENCBYTE(x, t)`: the low frame first (R102). -/
def encByte (p : Params) (x : Byte) (t : DeviceType) : Byte × Byte :=
  (encNib p .low (lowNibble x) t, encNib p .high (highNibble x) t)

/-- `DECODE(lo, hi)`, the reference inverse; no part of the block (R103). -/
def decodePayload (lo hi : Byte) : Byte := rev4 (lowNibble hi) ++ rev4 (lowNibble lo)

/-- A byte the block can produce under the parameters: its type bits and its nibble-select are the parameters', and
its set-bit count is even (R86). -/
def legalFrame (p : Params) (b : Byte) : Bool :=
  (b.extractLsb' 5 2 == p.ttSwitch || b.extractLsb' 5 2 == p.ttFeedback)
    && (b.extractLsb' 4 1 == p.nselLow || b.extractLsb' 4 1 == p.nselHigh)
    && popcount b % 2 == 0

end Sys2Proof.Machine
end

