-- ==== Sys2Proof/Machine/Ops.lean ====
section
/-! DEFINITION. The named operations over the block's storage: the transmit queue (R104, R110 to R114), the slot and
its arbiter (R124, R130), the sink (R72), the response (R94), ignored words (R173), reset (R200), and what takes the
place of an exception and its return: the entry of the desynchronisation cascade (R189, R190) and the way back
(R125, R192), which no saved register and no vector is part of (R184). -/

namespace Sys2Proof.Machine

/-! ### The transmit queue -/

/-- `Size` (R113). -/
def size (q : List Byte) : Nat := q.length

/-- `Push`: append at the young end, nothing when the queue is full (R110). -/
def push (q : List Byte) (b : Byte) : List Byte := if size q < Config.qcap then q ++ [b] else q

/-- `Pop`: the oldest entry and the queue without it; the sentinel and the queue unchanged when it is empty (R111). -/
def pop : List Byte → Byte × List Byte
  | [] => (Config.popSentinel, [])
  | b :: q => (b, q)

/-- `Clear` (R112). -/
def clear : List Byte := []

/-- `n` pushes of the same byte, one after the other (R104). -/
def pushCopies : Nat → Byte → List Byte → List Byte
  | 0, _, q => q
  | n + 1, b, q => pushCopies n b (push q b)

/-- `ENQUEUE(c, f)`: `k + 1` pushes of `f`, the count computed without wrap (R104). -/
def enqueue (k : Connection) (f : Byte) : Connection :=
  { k with queue := pushCopies (k.fecFactor.toNat + 1) f k.queue }

/-! ### The response and ignored words -/

/-- `return v`: the event's response value on `rsp` (R94). -/
def State.respond (s : State) (v : Byte) : State := { s with rsp := v }

/-- An ignored word: no state element changes, nothing is sent, the response is `0x00` (R90, R173). -/
def State.ignored (s : State) : State := s.respond 0x00#8

/-- A per-connection event: its effect on a connection that exists, ignored where `conn >= NCONN` (R90). -/
def State.onConnection (s : State) (c : ConnId) (f : Connection → State) : State :=
  match s.connAt c with
  | some k => f k
  | none => s.ignored

/-! ### The pending-byte slot -/

/-- "this connection's claim": the slot is occupied by a byte with this connection's address (R124). -/
def State.holdsClaim (s : State) (k : Connection) : Bool :=
  match s.slot with
  | some x => x.addr == k.address
  | none => false

/-- Release the claim if it is held (R120, R124). -/
def State.releaseClaim (s : State) (k : Connection) : State := if s.holdsClaim k then s.emptySlot else s

/-- The three conditions of `TRYHANDOFF`: an entry, an empty slot, an address in range (R130). -/
def State.canHandoff (s : State) (k : Connection) : Bool :=
  decide (0 < size k.queue) && s.slot.isNone && addressInRange k.address

/-- `TRYHANDOFF(c)`: where it returns true, the state with the slot filled and the connection without its oldest
entry; none where it returns false and nothing changes (R130). -/
def State.tryHandoff (s : State) (k : Connection) : Option (State × Connection) :=
  if s.canHandoff k then
    some (s.fillSlot ⟨k.address, (pop k.queue).1⟩, { k with queue := (pop k.queue).2 })
  else
    none

/-- `if TRYHANDOFF(c) then conn[c].state <- next` (R127, R128, R129). -/
def State.handoffTo (s : State) (c : ConnId) (k : Connection) (next : ConnState) : State :=
  match s.tryHandoff k with
  | some (s', k') => s'.setConn c { k' with state := next }
  | none => s

/-! ### The cascade -/

/-- A connection that has entered the cascade (R124, R190). -/
def desynchronised (k : Connection) : Connection :=
  { k with feedbackRequested := false, state := .unsynchronized, queue := clear }

/-- The entry of the cascade, the whole of it for one connection: `feedbackRequested` and the state cleared, the queue
emptied, the claim on the slot released (R124, R190). -/
def State.enterCascade (s : State) (c : ConnId) (k : Connection) : State :=
  (s.releaseClaim k).setConn c (desynchronised k)

/-- The first step of the way back: "feedback requested" is raised and the connection waits for it (R125, R192). -/
def State.requestFeedback (s : State) (c : ConnId) (k : Connection) : State :=
  s.setConn c { k with feedbackRequested := true, state := .feedbackNeeded }

/-! ### The sink -/

/-- What ByteSink is given for a frame: the frame, or its mirror when `SINK_MIRROR` is true (R72, R95). -/
def sinkByte (p : Params) (b : Byte) : Byte := if p.sinkMirror then mirror8 b else b

/-- `SinkSend(b)`: append `(pulseCount, out)` to `sinkTrace` (R72). -/
def State.sinkSend (s : State) (b : Byte) : State :=
  { s with sinkTrace := s.sinkTrace ++ [⟨s.pulseCount, sinkByte s.params b⟩] }

/-! ### What arrives from outside -/

/-- `RESET`: every state element at its reset value, the number of connections and the parameters being no state
(R37, R42, R200). What has not been taken yet stays: no event is lost (R66; DEDUCED, unsafe: log entry 7). -/
def State.resetBlock (s : State) : State :=
  { State.reset with
    conns := s.conns.map fun _ => Connection.reset
    arrivals := s.arrivals
    params := s.params }

/-- The strobes that can be active in one clock (R71, R187): the pulse, the tick, and a host command with its word. -/
structure Strobes where
  pulse : Bool
  tick : Bool
  cmd : Option EventWord
deriving DecidableEq, Repr

/-- Simultaneous strobes as a sequence of events: `PULSE`, then `TICK`, then the host command (R187;
log entry 13). The word on `cmd` is any word: one that names `PULSE` or `TICK`, which on the hardware arrive on their own
strobes (R71), is run as that event, a point the spec leaves open (DESIGN CHOICE, unsafe: log entry 16). -/
def Strobes.arrivals (x : Strobes) : List Arrival :=
  (if x.pulse then [.code (encode .pulse)] else [])
    ++ (if x.tick then [.code (encode .tick)] else [])
    ++ (match x.cmd with | some w => [.code (.evt32 w)] | none => [])

/-- One clock's strobes arrive at the block, after whatever has arrived before (R66, R67). -/
def State.strobe (s : State) (x : Strobes) : State := { s with arrivals := s.arrivals ++ x.arrivals }

/-- The next arrival and the state that has taken it: where `step` fetches (R67). -/
def State.take (s : State) : Option (Arrival × State) :=
  match s.arrivals with
  | [] => none
  | x :: rest => some (x, { s with arrivals := rest })

end Sys2Proof.Machine
end

