-- ==== Sys2Proof/Machine/Connection.lean ====
section
/-! DEFINITION. The connection state machine (`42_connection.md` R120 to R134): the events `CFG`, `REQ4`, `REQ8`,
`POLL` and `RDFB`. -/

namespace Sys2Proof.Machine

/-- The synchronised branch of `POLL c`: at most one transition, by the state the event finds (R123, R125 to
R129). -/
def State.pollSynchronised (s : State) (c : ConnId) (k : Connection) : State :=
  match k.state with
  | .unsynchronized => s.requestFeedback c k
  | .feedbackNeeded => if k.feedbackRequested then s else s.setConn c { k with state := .sendingNibble1 }
  | .sendingNibble1 => s.handoffTo c k .sendingNibble2
  | .sendingNibble2 => s.handoffTo c k .connected
  | .connected => s.handoffTo c k .connected

/-- The effect of `POLL c` on a connection that exists (R123). -/
def State.poll (s : State) (c : ConnId) (k : Connection) : State :=
  if s.signalIsOk then s.pollSynchronised c k else s.enterCascade c k

/-- `POLL c` (R123, R124). -/
def execPoll (c : ConnId) (s : State) : Host.Outcome State Fault Refusal :=
  .next (s.onConnection c fun k => (s.poll c k).respond 0x00#8)

/-- The effect of `CFG`: the claim under the OLD address is released, the three registers are written, and the
connection is as after a desynchronisation (R120). -/
def State.configure (s : State) (c : ConnId) (k : Connection) (address : Byte) (t : DeviceType) (fec : Byte) : State :=
  (s.releaseClaim k).setConn c (desynchronised { k with address := address, deviceType := t, fecFactor := fec })

/-- `CFG c, address, deviceType, fecFactor` (R120). -/
def execCfg (c : ConnId) (address : Byte) (deviceType : DeviceType) (fecFactor : Byte) (s : State) :
    Host.Outcome State Fault Refusal :=
  .next (s.onConnection c fun k => (s.configure c k address deviceType fecFactor).respond 0x00#8)

/-- The effect of `REQ4`: encode under the connection's device type and enqueue (R121). -/
def State.requestNibble (s : State) (c : ConnId) (k : Connection) (pos : Position) (bits : Nibble) : State :=
  s.setConn c (enqueue k (encNib s.params pos bits k.deviceType))

/-- `REQ4 c, position, bits` (R121). -/
def execReq4 (c : ConnId) (position : Position) (bits : Nibble) (s : State) : Host.Outcome State Fault Refusal :=
  .next (s.onConnection c fun k => (s.requestNibble c k position bits).respond 0x00#8)

/-- The effect of `REQ8`: all copies of the low frame, then all copies of the high frame, and `feedbackRequested`
cleared, whatever was dropped (R122). -/
def State.requestByte (s : State) (c : ConnId) (k : Connection) (x : Byte) : State :=
  let f := encByte s.params x k.deviceType
  s.setConn c { enqueue (enqueue k f.1) f.2 with feedbackRequested := false }

/-- `REQ8 c, byte` (R122). -/
def execReq8 (c : ConnId) (byte : Byte) (s : State) : Host.Outcome State Fault Refusal :=
  .next (s.onConnection c fun k => (s.requestByte c k byte).respond 0x00#8)

/-- `RDFB c`: `zext_8(conn[c].feedbackRequested)`, no state change (R131). -/
def execRdfb (c : ConnId) (s : State) : Host.Outcome State Fault Refusal :=
  .next (s.onConnection c fun k => s.respond (flagByte k.feedbackRequested))

end Sys2Proof.Machine
end

