-- ==== Sys2Proof/Machine/FrameBytes.lean ====
section
/-! DEFINITION. The four FRAME rows of the opcode table (`30_encoding.md` R81, R86). A FrameByte is what the block
produces, not what it obeys: "The block never receives or decodes a FrameByte, so it has no illegal-frame trap" (R86).
A byte put on the one input that takes words, `cmd`, is the event word with that byte in bits 7:0 and zeros above;
its `op` is `0x0`, so it is ignored: no state change, nothing sent, response `0x00` (R90, R173; DEDUCED, unsafe: log entry 6). -/

namespace Sys2Proof.Machine

/-- FRAME.SW.LO as an input of the block (R86, R173). -/
def execFrameSwLo (_p : Bool) (_d : Nibble) (s : State) : Host.Outcome State Fault Refusal := .next s.ignored

/-- FRAME.SW.HI as an input of the block (R86, R173). -/
def execFrameSwHi (_p : Bool) (_d : Nibble) (s : State) : Host.Outcome State Fault Refusal := .next s.ignored

/-- FRAME.FB.LO as an input of the block (R86, R173). -/
def execFrameFbLo (_p : Bool) (_d : Nibble) (s : State) : Host.Outcome State Fault Refusal := .next s.ignored

/-- FRAME.FB.HI as an input of the block (R86, R173). -/
def execFrameFbHi (_p : Bool) (_d : Nibble) (s : State) : Host.Outcome State Fault Refusal := .next s.ignored

end Sys2Proof.Machine
end

