-- ==== Sys2Proof/Machine/HostReads.lean ====
section
/-! DEFINITION. The host reads (`45_host_reads.md` R170 to R172): the events `RDOK`, `RDPAR` and `RDPCE`. -/

namespace Sys2Proof.Machine

/-- `RDOK`: `zext_8(signalIsOk)` (R170). -/
def execRdok (s : State) : Host.Outcome State Fault Refusal := .next (s.respond (flagByte s.signalIsOk))

/-- `RDPAR`: `parityErrorCount` (R171). -/
def execRdpar (s : State) : Host.Outcome State Fault Refusal := .next (s.respond s.parityErrorCount)

/-- `RDPCE`: `pulseCountErrorCount` (R172). -/
def execRdpce (s : State) : Host.Outcome State Fault Refusal := .next (s.respond s.pulseCountErrorCount)

end Sys2Proof.Machine
end

