-- ==== Sys2Proof/Machine/PulseHandler.lean ====
section
/-! DEFINITION. The pulse handler (`44_pulse_handler.md` R160 to R166): the event `PULSE`. -/

namespace Sys2Proof.Machine

/-- "if pulseCount == 0 then byteWasSent <- 0", then the increment modulo 2^16 (R160, R161). -/
def State.countPulse (s : State) : State :=
  { s with
    byteWasSent := if s.pulseCount = 0#16 then false else s.byteWasSent
    pulseCount := s.pulseCount + 1#16 }

/-- Whether the slot's byte goes out at the present count: armed, and the count equals the slot's address, compared
on all 16 bits (R160, R162). -/
def State.slotMatches (s : State) (x : Slot) : Bool := s.slotArmed && s.pulseCount == x.addr.zeroExtend 16

/-- Hand the slot's byte to ByteSink, mark "byte was sent", empty the slot (R160). -/
def State.sendSlot (s : State) (x : Slot) : State := ((s.sinkSend x.frame).setByteWasSent true).emptySlot

/-- The effect of `PULSE`: the increment comes first and the new value is compared (R160). -/
def State.pulse (s : State) : State :=
  let t := s.countPulse
  match t.slot with
  | some x => if t.slotMatches x then t.sendSlot x else t
  | none => t

/-- `PULSE` (R160). -/
def execPulse (s : State) : Host.Outcome State Fault Refusal := .next (s.pulse.respond 0x00#8)

end Sys2Proof.Machine
end

