-- ==== Sys2Proof/Machine/SyncMonitor.lean ====
section
/-! DEFINITION. The sync monitor (`43_sync_monitor.md` R140 to R156): the event `TICK`, the silence-gap classifier,
and the ghost label of a tick (R155). -/

namespace Sys2Proof.Machine

/-- "If counter changed since the previous tick": any difference (R141). -/
def State.pulsesSeen (s : State) : Bool := s.pulseCount != s.prevPulseCount

/-- The changed branch: record the count and set `idleWindowCount` to 1 (R141, R151). -/
def State.recordPulses (s : State) : State :=
  { s with prevPulseCount := s.pulseCount, idleWindowCount := 1#8 }

/-- The number of the window an unchanged tick enters: `min(idleWindowCount + 1, W_SAT)` (R142). -/
def State.nextWindow (s : State) : Nat := min (s.idleWindowCount.toNat + 1) Config.wSat

/-- `idleWindowCount <- min(idleWindowCount + 1, W_SAT)` (R142). -/
def State.countWindow (s : State) : State := { s with idleWindowCount := BitVec.ofNat 8 s.nextWindow }

/-- Window 3 with a good total: `signalIsOk <- 1`, and the slot is armed if it is occupied (R144). -/
def State.cycleOk (s : State) : State := (s.setSignalIsOk true).armIfHeld

/-- Window 3 with a wrong total: count it and, if previously synchronised, apply the policy (R145, R181). -/
def State.pulseCountError (s : State) : State :=
  let t : State := { s with pulseCountErrorCount := s.pulseCountErrorCount + 1#8 }
  if t.signalIsOk then t.applyPolicy t.params.policyPulseCount else t

/-- "Reset the pulse counter/expectation for the next cycle either way" (R146). -/
def State.zeroCounts (s : State) : State := { s with pulseCount := 0#16, prevPulseCount := 0#16 }

/-- Window 3 (R144, R145, R146). -/
def State.boundaryWindow (s : State) : State :=
  (if s.pulseCount = Config.cyclePulses then s.cycleOk else s.pulseCountError).zeroCounts

/-- Window 5: count a parity error, unconditionally, and apply the policy (R148, R182). -/
def State.parityWindow (s : State) : State :=
  let t : State := { s with parityErrorCount := s.parityErrorCount + 1#8 }
  t.applyPolicy t.params.policyParity

/-- Window 7: signal loss, and the parity count of window 5 retracted, unconditionally (R149, R183, U3). -/
def State.lossWindow (s : State) : State :=
  { s with
    signalIsOk := false
    parityErrorCount := s.parityErrorCount - 1#8
    byteWasSent := false }

/-- The action of the idle window `n`: windows 3, 5 and 7 act, the others do nothing (R143 to R150). -/
def State.windowAction (s : State) (n : Nat) : State :=
  if n = Config.wBoundary then s.boundaryWindow
  else if n = Config.wParity then s.parityWindow
  else if n = Config.wLoss then s.lossWindow
  else s

/-- The effect of `TICK` (R140). -/
def State.tick (s : State) : State :=
  if s.pulsesSeen then s.recordPulses else s.countWindow.windowAction s.nextWindow

/-- The ghost label of the tick taken in the state `s` (R140, R155). -/
def State.tickLabel (s : State) : Classification :=
  if s.pulsesSeen then .none
  else if s.nextWindow = Config.wBoundary then
    if s.pulseCount = Config.cyclePulses then .cycleOk else .pulseCountError
  else if s.nextWindow = Config.wParity then .parityError
  else if s.nextWindow = Config.wLoss then .signalLoss
  else .none

/-- `TICK` (R140). -/
def execTick (s : State) : Host.Outcome State Fault Refusal := .next (s.tick.respond 0x00#8)

end Sys2Proof.Machine
end

