-- ==== Sys2Proof/Machine/Dispatch.lean ====
section
/-! DEFINITION. One arm for each constructor of Instr: the meaning of each row of the opcode table. -/

namespace Sys2Proof.Machine

def exec (i : Instr) (s : State) : Host.Outcome State Fault Refusal :=
  match i with
  | .pulse => Sys2Proof.Machine.execPulse s
  | .tick => Sys2Proof.Machine.execTick s
  | .poll c => Sys2Proof.Machine.execPoll c s
  | .cfg c address deviceType fecFactor => Sys2Proof.Machine.execCfg c address deviceType fecFactor s
  | .req4 c position bits => Sys2Proof.Machine.execReq4 c position bits s
  | .req8 c byte => Sys2Proof.Machine.execReq8 c byte s
  | .rdfb c => Sys2Proof.Machine.execRdfb c s
  | .rdok => Sys2Proof.Machine.execRdok s
  | .rdpar => Sys2Proof.Machine.execRdpar s
  | .rdpce => Sys2Proof.Machine.execRdpce s
  | .frameSwLo p d => Sys2Proof.Machine.execFrameSwLo p d s
  | .frameSwHi p d => Sys2Proof.Machine.execFrameSwHi p d s
  | .frameFbLo p d => Sys2Proof.Machine.execFrameFbLo p d s
  | .frameFbHi p d => Sys2Proof.Machine.execFrameFbHi p d s

end Sys2Proof.Machine
end

