-- ==== Sys2Proof/Machine/Deliver.lean ====
section
/-! DEFINITION. What the block does with one arrival: reset, an event, or a word that names no event (R90, R173,
R200). -/

namespace Sys2Proof.Machine

/-- An item of the event stream: the decoded row's meaning; a word the decoder refuses is ignored (R90, R173, U17;
DESIGN CHOICE, unsafe: log entry 8). -/
def runCode (c : Code) (s : State) : Host.Outcome State Fault Refusal :=
  match decode c with
  | .ok i => exec i s
  | .error _ => .next s.ignored

/-- One arrival, taken by the block (R67, R200). -/
def deliver (x : Arrival) (s : State) : Host.Outcome State Fault Refusal :=
  match x with
  | .rst => .next s.resetBlock
  | .code c => runCode c s

/-- Put an item where `step` takes its next one, before everything that has arrived (DESIGN CHOICE, log entry 4). -/
def State.withNext (s : State) (c : Code) : State := { s with arrivals := .code c :: s.arrivals }

/-- `PULSES n` (R93). -/
def pulses (n : Nat) : List Instr := List.replicate n .pulse

/-- `SILENCE n` (R93). -/
def silence (n : Nat) : List Instr := List.replicate n .tick

/-- `CYCLE`: `PULSES 130` then `SILENCE 3` (R93). -/
def cycle : List Instr := pulses 130 ++ silence 3

/-- The events of a list, one after the other, stopping at the first that does not answer a next state (R67). -/
def execAll : List Instr → State → Host.Outcome State Fault Refusal
  | [], s => .next s
  | i :: is, s =>
    match exec i s with
    | .next t => execAll is t
    | .fault r => .fault r
    | .refused r => .refused r

end Sys2Proof.Machine
end

