-- ==== Sys2Proof/Machine/Step.lean ====
section
/-! DEFINITION. One step: the block takes the next arrival and reacts to it, as one atomic transition (R65, R67).
With nothing arrived it waits: "after reset the block waits for events" (R200). -/

namespace Sys2Proof.Machine

/-- One step of the machine. -/
def step (s : State) : Host.Outcome State Fault Refusal :=
  match s.take with
  | some (x, t) => deliver x t
  | none => .next s

/-- The state in which the next step takes exactly the given word of the opcode table. -/
def State.withFetchWord (s : State) (nbits w : Nat) : State := s.withNext (Code.ofTable nbits w)

end Sys2Proof.Machine
end

