-- ==== Sys2Proof/Safety.lean ====
section
/-! DEFINITION. What holds in every state the block reaches from reset: the invariants of `10_state.md` R40 that are
about single states, with the conditions that make each of them inductive. -/

namespace Sys2Proof.Machine

/-- INV3: if `slotValid` = 1 then `1 <= slotAddr <= 128` (R40). -/
abbrev State.SlotAddrInRange (s : State) : Prop :=
  ∀ x ∈ s.slot, 1 ≤ x.addr.toNat ∧ x.addr.toNat ≤ 128

/-- INV4: `slotArmed = 1` implies `slotValid = 1`; with `ARM_POLICY = Immediate` the two are equal (R40, R28). -/
abbrev State.ArmedOnlyIfValid (s : State) : Prop :=
  (s.slotArmed = true → s.slot.isSome = true) ∧
    (s.params.armPolicy = .immediate → s.slotArmed = s.slot.isSome)

/-- INV5: `0 <= idleWindowCount <= 8`, and the length of every queue is at most 16 (R40). -/
abbrev State.CountsBounded (s : State) : Prop :=
  s.idleWindowCount.toNat ≤ 8 ∧ ∀ k ∈ s.conns, k.queue.length ≤ 16

/-- What makes INV6 inductive: from window 3 on, the remembered count is 0 (R40, R146). -/
abbrev State.SilenceHasZeroCopy (s : State) : Prop :=
  3 ≤ s.idleWindowCount.toNat → s.prevPulseCount = 0#16

/-- INV7: every byte in a queue, in the slot and, before mirroring, in `sinkTrace` is a legal FrameByte (R40, R86).
Mirroring is its own inverse (R95), so the byte before mirroring is the mirrored byte of the entry. -/
abbrev State.FramesLegal (s : State) : Prop :=
  (∀ k ∈ s.conns, ∀ b ∈ k.queue, legalFrame s.params b = true) ∧
    (∀ x ∈ s.slot, legalFrame s.params x.frame = true) ∧
    (∀ e ∈ s.sinkTrace, legalFrame s.params (sinkByte s.params e.byte) = true)

/-- `NCONN` is a number from 1 to 16 (R6). -/
abbrev State.ConnectionCountLegal (s : State) : Prop := 1 ≤ s.nconn ∧ s.nconn ≤ 16

/-- `feedbackRequested` is 1 only while the connection waits for it, in `FeedbackNeeded` (R34, R39, R133). -/
abbrev State.RequestOnlyWhileNeeded (s : State) : Prop :=
  ∀ k ∈ s.conns, k.feedbackRequested = true → k.state = .feedbackNeeded

/-- The invariant: all of the above together. -/
abbrev State.Inv (s : State) : Prop :=
  s.SlotAddrInRange ∧ s.ArmedOnlyIfValid ∧ s.CountsBounded ∧ s.SilenceHasZeroCopy ∧ s.FramesLegal ∧
    s.ConnectionCountLegal ∧ s.RequestOnlyWhileNeeded

/-- The `Push` and `Pop` of a sequence of queue operations (R114). -/
inductive QueueOp where
  | push (b : Byte)
  | pop
deriving DecidableEq, Repr

/-- What a sequence of queue operations did: the bytes accepted by the successful `Push`es, the bytes returned by the
successful `Pop`s, each in order, and the queue left (R114). -/
structure QueueRun where
  accepted : List Byte
  returned : List Byte
  queue : List Byte
deriving DecidableEq, Repr

/-- Run a sequence of queue operations. A `Push` on a full queue and a `Pop` on an empty one are not successful, and
their bytes are not listed (R110, R111). -/
def runQueue : List QueueOp → List Byte → QueueRun
  | [], q => ⟨[], [], q⟩
  | .push b :: ops, q =>
    let r := runQueue ops (push q b)
    if size q < Config.qcap then { r with accepted := b :: r.accepted } else r
  | .pop :: ops, q =>
    let r := runQueue ops (pop q).2
    if 0 < size q then { r with returned := (pop q).1 :: r.returned } else r

/-- The state `POLL c` leaves a connection in, row by row as the table of R133 has it. -/
def pollTarget (s : State) (k : Connection) : ConnState :=
  if s.signalIsOk = false then .unsynchronized
  else
    match k.state with
    | .unsynchronized => .feedbackNeeded
    | .feedbackNeeded => if k.feedbackRequested = true then .feedbackNeeded else .sendingNibble1
    | .sendingNibble1 => if s.canHandoff k then .sendingNibble2 else .sendingNibble1
    | .sendingNibble2 => if s.canHandoff k then .connected else .sendingNibble2
    | .connected => .connected

/-- A connection in one of the three states in which a synchronised `POLL` tries a handoff (R127, R128, R129). -/
abbrev Connection.handsOff (k : Connection) : Prop :=
  k.state = .sendingNibble1 ∨ k.state = .sendingNibble2 ∨ k.state = .connected

/-- A request of a connection: `REQ4` or `REQ8` (R121, R122). -/
def isRequestOf (i : Instr) (c : ConnId) : Prop := (∃ p b, i = .req4 c p b) ∨ ∃ x, i = .req8 c x

/-- A machine never stops: its step answers a next state (R220). -/
abbrev State.Runs (s : State) : Prop := ∃ t, step s = .next t

end Sys2Proof.Machine
end

