-- ==== Sys2Proof/WellFormed.lean ====
section
/-! DEFINITION. Which instructions are well formed. The operands of the ten events have the exact widths of R89 and
every value of them is accepted (R89, R120), so nothing is left to check there; whether a connection exists depends
on `NCONN`, which is the machine's (R90), not the instruction's. A FrameByte is legal only with the parity of R82. -/

namespace Sys2Proof

/-- The number of bits of a nibble that are 1, odd or not: the exclusive or of its four bits. -/
def oddNibble (d : Nibble) : Bool := (d.getLsbD 0 ^^ d.getLsbD 1) ^^ (d.getLsbD 2 ^^ d.getLsbD 3)

/-- Well-formedness. The parity bit of a FrameByte makes its total set-bit count even (R82, R86): with the type bits
and the nibble-select of a row fixed, `P` is the odd parity of the data, inverted when the row's own bits are odd. -/
def Instr.wellFormed : Instr → Bool
  | .pulse => true
  | .tick => true
  | .poll _ => true
  | .cfg _ _ _ _ => true
  | .req4 _ _ _ => true
  | .req8 _ _ => true
  | .rdfb _ => true
  | .rdok => true
  | .rdpar => true
  | .rdpce => true
  | .frameSwLo p d => p == (!oddNibble d)
  | .frameSwHi p d => p == oddNibble d
  | .frameFbLo p d => p == (!oddNibble d)
  | .frameFbHi p d => p == oddNibble d

end Sys2Proof
end

