-- ==== Sys2Proof/Certificates/Slice0/Obligations.lean ====
section
/-! DEFINITION. The statements for the provers, from the numbered rules of spec/. A state is quantified over all
states unless a hypothesis says otherwise; `connAt c = some k` says that connection `c` exists (`c < NCONN`). -/

open Sys2Proof Sys2Proof.Machine

/-! ### Encodings -/

/-- Words written out in the spec decode to the rows they stand for (R87, R88, R89, R92; vectors V-CONN, V-RD-1,
V-PULSE-1, V-ENC-1), the non-canonical ones included. -/
def Obligations.SpecWordsDecodeToTheirRows : Prop :=
  decodeTableWord 32 0x10000000 = some .pulse ∧
  decodeTableWord 32 0x1FFFFFFF = some .pulse ∧
  decodeTableWord 32 0x20000000 = some .tick ∧
  decodeTableWord 32 0x31000000 = some (.poll 1#4) ∧
  decodeTableWord 32 0x40050100 = some (.cfg 0#4 5#8 .feedback 0#8) ∧
  decodeTableWord 32 0x40FFFFFF = some (.cfg 0#4 255#8 .feedback 255#8) ∧
  decodeTableWord 32 0x50000103 = some (.req4 0#4 .high 3#4) ∧
  decodeTableWord 32 0x50AB03F3 = some (.req4 0#4 .high 3#4) ∧
  decodeTableWord 32 0x600000A5 = some (.req8 0#4 0xA5#8) ∧
  decodeTableWord 32 0x70000000 = some (.rdfb 0#4) ∧
  decodeTableWord 32 0x8ABCDEF0 = some .rdok ∧
  decodeTableWord 32 0x90000000 = some .rdpar ∧
  decodeTableWord 32 0xA0000000 = some .rdpce ∧
  decodeTableWord 8 0xA0 = some (.frameSwLo true 0#4) ∧
  decodeTableWord 8 0x30 = some (.frameSwHi false 0#4) ∧
  decodeTableWord 8 0xCA = some (.frameFbLo true 0xA#4) ∧
  decodeTableWord 8 0x55 = some (.frameFbHi false 0x5#4) ∧
  decodeTableWord 32 0x00000000 = none ∧
  decodeTableWord 32 0xF1234567 = none

/-- Decoding what the encoder writes gives the instruction back, for every instruction and every operand (R81, R87 to
R89). -/
def Obligations.DecodeAfterEncodeIsIdentity : Prop :=
  ∀ i : Instr, decode (encode i) = .ok i

/-- Encoding what the decoder reads gives the word back with the bits its event does not use at zero, and a FrameByte
back whole: no used bit is dropped and no unused bit is read (R89). -/
def Obligations.EncodeAfterDecodeKeepsUsedBits : Prop :=
  (∀ w i, decodeEvent w = .ok i → encode i = .evt32 (w &&& usedBits (opField w))) ∧
  (∀ b i, decodeFrame b = .ok i → encode i = .frame8 b)

/-- Exactly the reserved values of `op` name no event (R88, R90), and the type bits 00 and 11 name no FrameByte (R86).
That the decoder rejects a byte for its type bits alone, and accepts either parity bit where R86 reserves odd parity too,
is the model's choice (DESIGN CHOICE, log entry 14). -/
def Obligations.ReservedCodesAreRejected : Prop :=
  (∀ w, decodeEvent w = .error (.reservedOp (opField w)) ↔ (opField w).toNat = 0 ∨ 11 ≤ (opField w).toNat) ∧
  (∀ b, decodeFrame b = .error (.reservedTypeBits (b.extractLsb' 5 2)) ↔
    b.extractLsb' 5 2 = 0b00#2 ∨ b.extractLsb' 5 2 = 0b11#2)

/-! ### The step -/

/-- When the next item decodes to an instruction, the step takes the item and is that instruction's meaning (R5, R65,
R67). -/
def Obligations.StepRunsTheDecodedInstruction : Prop :=
  ∀ (s : State) c rest i, s.arrivals = .code c :: rest → decode c = .ok i →
    step s = exec i { s with arrivals := rest }

/-- An event word with a reserved `op`, and a per-connection event word whose `conn >= NCONN`, change nothing but the
response, which is 0x00 (R173). -/
def Obligations.WordsNamingNoEventAreIgnored : Prop :=
  (∀ (s : State) w rest, s.arrivals = .code (.evt32 w) :: rest →
    ((opField w).toNat = 0 ∨ 11 ≤ (opField w).toNat) →
    step s = .next { s with arrivals := rest, rsp := 0x00#8 }) ∧
  (∀ (s : State) w rest, s.arrivals = .code (.evt32 w) :: rest →
    (3 ≤ (opField w).toNat ∧ (opField w).toNat ≤ 7) → s.nconn ≤ (connField w).toNat →
    step s = .next { s with arrivals := rest, rsp := 0x00#8 })

/-- Every per-connection event addressed to a connection that does not exist is ignored (R90). -/
def Obligations.AbsentConnectionIsIgnored : Prop :=
  ∀ (i : Instr) (s : State) c, i.conn = some c → s.nconn ≤ c.toNat → exec i s = .next { s with rsp := 0x00#8 }

/-- With nothing arrived the block waits and nothing changes: the model's choice of what a step is then (log entry 4;
R200 "after reset the block waits for events"). -/
def Obligations.StepWaitsWhenNothingArrived : Prop :=
  ∀ s : State, s.arrivals = [] → step s = .next s

/-- The state after reset is the table of R42, for the number of connections the block has. -/
def Obligations.ResetStateIsTheTable : Prop :=
  State.reset.signalIsOk = false ∧ State.reset.idleWindowCount = 0#8 ∧
  State.reset.pulseCount = 0#16 ∧ State.reset.prevPulseCount = 0#16 ∧
  State.reset.parityErrorCount = 0#8 ∧ State.reset.pulseCountErrorCount = 0#8 ∧
  State.reset.slot = none ∧ State.reset.slotArmed = false ∧ State.reset.byteWasSent = false ∧
  State.reset.sinkTrace = [] ∧
  (∀ k ∈ State.reset.conns, k.address = 0#8 ∧ k.deviceType = .switch ∧ k.fecFactor = 0#8 ∧
    k.state = .unsynchronized ∧ k.feedbackRequested = false ∧ k.queue = [])

/-- The `rst` input puts every state element at its reset value from any state, the connections keeping their number
(R42, R200). The model's own: the response port is 0x00 after `rst` (DESIGN CHOICE, log entry 5), and the parameters and
what has not been taken yet stay, as the model reads R37 and R66 (DEDUCED, log entry 7). -/
def Obligations.RstInputResetsEverything : Prop :=
  ∀ (s : State) rest, s.arrivals = .rst :: rest →
    step s = .next
      { signalIsOk := false, idleWindowCount := 0#8, pulseCount := 0#16, prevPulseCount := 0#16,
        parityErrorCount := 0#8, pulseCountErrorCount := 0#8, slot := none, slotArmed := false,
        byteWasSent := false, conns := List.replicate s.nconn ⟨0#8, .switch, 0#8, .unsynchronized, false, []⟩,
        sinkTrace := [], rsp := 0x00#8, arrivals := rest, params := s.params }

/-- Strobes active in one clock are taken in the order PULSE, TICK, host command, each executed completely before the
next (R187). The host command is any word that decodes; that a word of `PULSE` or `TICK` on `cmd` is run as that event is
the model's choice (DESIGN CHOICE, log entry 16). -/
def Obligations.StrobesOfOneClockAreTakenInOrder : Prop :=
  (∀ (s : State) (p k : Bool) w i, s.arrivals = [] → decodeEvent w = .ok i →
    Sys2Proof.core.run (Strobes.arrivals ⟨p, k, some w⟩).length (s.strobe ⟨p, k, some w⟩) =
      execAll ((if p then [.pulse] else []) ++ (if k then [.tick] else []) ++ [i]) s) ∧
  (∀ (s : State) (p k : Bool), s.arrivals = [] →
    Sys2Proof.core.run (Strobes.arrivals ⟨p, k, none⟩).length (s.strobe ⟨p, k, none⟩) =
      execAll ((if p then [.pulse] else []) ++ (if k then [.tick] else [])) s)

/-- Every event is total and the block never stops: no step and no event ends in a fault or a refusal (R220). -/
def Obligations.EveryStepAnswersNext : Prop :=
  (∀ s : State, s.Runs) ∧ (∀ (i : Instr) (s : State), ∃ t, exec i s = .next t)

/-! ### The frame encoder -/

/-- The parity bit is the parity of the seven other bits, so that the set-bit count of the byte is even, for every
value of the parameters (R82). -/
def Obligations.EncodedFrameHasEvenParity : Prop :=
  ∀ (p : Params) pos v t,
    (encNib p pos v t).getLsbD 7 = (popcount ((encNib p pos v t).extractLsb' 0 7) % 2 == 1) ∧
      popcount (encNib p pos v t) % 2 = 0

/-- Each field of an encoded frame stands in its place: TT1 TT0 at 6:5, N at 4, and the payload reversed in D3..D0
(R81, R83, R84, R85, R101). -/
def Obligations.EncodedFrameFieldsStandInPlace : Prop :=
  ∀ (p : Params) pos v t,
    (encNib p pos v t).extractLsb' 5 2 = (match t with | .switch => p.ttSwitch | .feedback => p.ttFeedback) ∧
      (encNib p pos v t).extractLsb' 4 1 = (match pos with | .low => p.nselLow | .high => p.nselHigh) ∧
      (∀ j < 4, (encNib p pos v t).getLsbD j = v.getLsbD (3 - j))

/-- Different operands give different bytes as long as the two type-bit values differ and the two nibble-select values
differ (R101). -/
def Obligations.EncodeNibbleIsInjective : Prop :=
  ∀ (p : Params) pos v t pos' v' t', p.ttSwitch ≠ p.ttFeedback → p.nselLow ≠ p.nselHigh →
    encNib p pos v t = encNib p pos' v' t' → pos = pos' ∧ v = v' ∧ t = t'

/-- The round-trip law, with the checks of the stricter decoder (R102, R103). -/
def Obligations.PayloadRoundTrip : Prop :=
  ∀ (p : Params) x t,
    decodePayload (encByte p x t).1 (encByte p x t).2 = x ∧
      (encByte p x t).1.extractLsb' 4 1 = p.nselLow ∧ (encByte p x t).2.extractLsb' 4 1 = p.nselHigh ∧
      (encByte p x t).1.extractLsb' 5 2 = (encByte p x t).2.extractLsb' 5 2 ∧
      popcount (encByte p x t).1 % 2 = 0 ∧ popcount (encByte p x t).2 % 2 = 0

/-- `mirror8` reverses the bits of a byte and keeps its parity; the sink is given the mirror exactly when
`SINK_MIRROR` is true; and decoding the mirrored bytes, mirrored back, recovers the payload (R95). -/
def Obligations.MirrorReversesTheByte : Prop :=
  (∀ (v : Byte), (∀ i < 8, (mirror8 v).getLsbD i = v.getLsbD (7 - i)) ∧ popcount (mirror8 v) = popcount v) ∧
  (∀ (p : Params) b, sinkByte p b = if p.sinkMirror = true then mirror8 b else b) ∧
  (∀ (p : Params) x t,
    decodePayload (mirror8 (mirror8 (encByte p x t).1)) (mirror8 (mirror8 (encByte p x t).2)) = x) ∧
  mirror8 0xCA#8 = 0x53#8 ∧ mirror8 0x55#8 = 0xAA#8

/-- With the parameters of R6 the block can produce exactly 64 byte values: the outputs of the encoder (R86). -/
def Obligations.FrameSpaceIsTheEncodersRange : Prop :=
  ((List.range 256).filter fun n => legalFrame Config.params (BitVec.ofNat 8 n)).length = 64 ∧
  (∀ b, legalFrame Config.params b = true ↔ ∃ pos v t, b = encNib Config.params pos v t)

/-- With the parameters of R6 an encoded frame is the row of the opcode table that its type and its position name, with
the reversed payload as data, and it is well formed (R81 to R86). -/
def Obligations.EncodedFramesAreTheTableRows : Prop :=
  ∀ v : Nibble,
    (∃ p, decodeFrame (encNib Config.params .low v .switch) = .ok (.frameSwLo p (rev4 v)) ∧
      (Instr.frameSwLo p (rev4 v)).wellFormed = true) ∧
    (∃ p, decodeFrame (encNib Config.params .high v .switch) = .ok (.frameSwHi p (rev4 v)) ∧
      (Instr.frameSwHi p (rev4 v)).wellFormed = true) ∧
    (∃ p, decodeFrame (encNib Config.params .low v .feedback) = .ok (.frameFbLo p (rev4 v)) ∧
      (Instr.frameFbLo p (rev4 v)).wellFormed = true) ∧
    (∃ p, decodeFrame (encNib Config.params .high v .feedback) = .ok (.frameFbHi p (rev4 v)) ∧
      (Instr.frameFbHi p (rev4 v)).wellFormed = true)

/-- A FRAME row given to the block as an input is ignored: no state change, response 0x00 (R86, R173; that a byte at the
input is the event word with zeros above it is the model's reading, log entry 6). -/
def Obligations.FrameRowsAreIgnoredAsInputs : Prop :=
  ∀ (s : State) p d,
    exec (.frameSwLo p d) s = .next { s with rsp := 0x00#8 } ∧
    exec (.frameSwHi p d) s = .next { s with rsp := 0x00#8 } ∧
    exec (.frameFbLo p d) s = .next { s with rsp := 0x00#8 } ∧
    exec (.frameFbHi p d) s = .next { s with rsp := 0x00#8 }

/-! ### The transmit queue -/

/-- A push appends while there is room and does nothing on a full queue; a pop returns the oldest entry, and the
sentinel 0x00 with the queue unchanged on an empty one (R110, R111). -/
def Obligations.PushAndPopAtTheEnds : Prop :=
  ∀ (q : List Byte) b,
    (q.length ≤ 15 → push q b = q ++ [b] ∧ size (push q b) = size q + 1) ∧
    (16 ≤ q.length → push q b = q) ∧
    pop ([] : List Byte) = (0x00#8, []) ∧
    pop (b :: q) = (b, q)

/-- For any sequence of pushes and pops, what was queued and what was accepted come out in order, whole, without
merging: the returned bytes and then the bytes still queued (R114). -/
def Obligations.QueueKeepsTheOrder : Prop :=
  ∀ (ops : List QueueOp) (q : List Byte),
    q ++ (runQueue ops q).accepted = (runQueue ops q).returned ++ (runQueue ops q).queue ∧
      (q = [] → (runQueue ops q).returned <+: (runQueue ops q).accepted)

/-! ### PULSE -/

/-- The result of PULSE, whole: the count, the byte handed to the sink with the new count, `byteWasSent`, and the slot;
nothing else changes but the response (R160, R161). -/
def Obligations.PulseResult : Prop :=
  ∀ s : State,
    (∀ x, s.slot = some x → s.slotArmed = true → s.pulseCount + 1#16 = x.addr.zeroExtend 16 →
      exec .pulse s = .next
        { s with
          pulseCount := s.pulseCount + 1#16
          sinkTrace := s.sinkTrace ++
            [⟨s.pulseCount + 1#16, if s.params.sinkMirror = true then mirror8 x.frame else x.frame⟩]
          byteWasSent := true, slot := none, slotArmed := false, rsp := 0x00#8 }) ∧
    ((s.slot = none ∨ s.slotArmed = false ∨ ∃ x, s.slot = some x ∧ s.pulseCount + 1#16 ≠ x.addr.zeroExtend 16) →
      exec .pulse s = .next
        { s with
          pulseCount := s.pulseCount + 1#16
          byteWasSent := if s.pulseCount = 0#16 then false else s.byteWasSent
          rsp := 0x00#8 })

/-- PULSE neither reads nor writes `signalIsOk`: whatever the bit is, the pulse does the same (R160). -/
def Obligations.PulseDoesNotReadSignalIsOk : Prop :=
  ∀ (s t : State) b, exec .pulse s = .next t →
    exec .pulse { s with signalIsOk := b } = .next { t with signalIsOk := b }

/-- Only PULSE hands a byte to the sink, at most one, the slot's, when the slot is armed and the new count equals the
slot's address; and the slot is then empty (R36, R72, R160). -/
def Obligations.OnlyAMatchingPulseSends : Prop :=
  ∀ (i : Instr) (s t : State), exec i s = .next t →
    t.sinkTrace = s.sinkTrace ∨
      (i = .pulse ∧ ∃ x, s.slot = some x ∧ s.slotArmed = true ∧ s.pulseCount + 1#16 = x.addr.zeroExtend 16 ∧
        t.sinkTrace = s.sinkTrace ++ [⟨x.addr.zeroExtend 16, sinkByte s.params x.frame⟩] ∧ t.slot = none)

/-- `byteWasSent` is set only by a sending PULSE, and cleared only by the first PULSE of a cycle or by TICK at window 7
(R29, R39, R161). -/
def Obligations.ByteWasSentHasTheseWriters : Prop :=
  ∀ (i : Instr) (s t : State), exec i s = .next t →
    (s.byteWasSent = false → t.byteWasSent = true →
      i = .pulse ∧ s.slotArmed = true ∧ s.slot.isSome = true ∧ t.sinkTrace ≠ s.sinkTrace) ∧
    (s.byteWasSent = true → t.byteWasSent = false →
      (i = .pulse ∧ s.pulseCount = 0#16) ∨
        (i = .tick ∧ s.pulseCount = s.prevPulseCount ∧ s.idleWindowCount = 6#8))

/-! ### TICK -/

/-- The changed branch: record the count, window 1, nothing else (R141). -/
def Obligations.TickThatSawPulses : Prop :=
  ∀ s : State, s.pulseCount ≠ s.prevPulseCount →
    exec .tick s = .next { s with prevPulseCount := s.pulseCount, idleWindowCount := 1#8, rsp := 0x00#8 }

/-- An unchanged tick that enters no window 3, 5 or 7 only counts, and the count stops at 8 (R142, R143, R147, R150). -/
def Obligations.TickInAQuietWindow : Prop :=
  ∀ s : State, s.pulseCount = s.prevPulseCount → s.idleWindowCount ≠ 2#8 → s.idleWindowCount ≠ 4#8 →
    s.idleWindowCount ≠ 6#8 →
    exec .tick s = .next
      { s with idleWindowCount := BitVec.ofNat 8 (min (s.idleWindowCount.toNat + 1) 8), rsp := 0x00#8 }

/-- Window 3 with 130 pulses: synchronised, an occupied slot armed, both counts zeroed (R144, R146). -/
def Obligations.TickAtAGoodBoundary : Prop :=
  ∀ s : State, s.pulseCount = s.prevPulseCount → s.idleWindowCount = 2#8 → s.pulseCount = 130#16 →
    exec .tick s = .next
      { s with
        idleWindowCount := 3#8, signalIsOk := true, slotArmed := s.slotArmed || s.slot.isSome
        pulseCount := 0#16, prevPulseCount := 0#16, rsp := 0x00#8 }

/-- Window 3 with any other total: one pulse-count error; a synchronised block loses `signalIsOk` exactly when its
policy triggers; both counts zeroed (R145, R146, R152, R181). -/
def Obligations.TickAtAWrongTotal : Prop :=
  ∀ s : State, s.pulseCount = s.prevPulseCount → s.idleWindowCount = 2#8 → s.pulseCount ≠ 130#16 →
    exec .tick s = .next
      { s with
        idleWindowCount := 3#8, pulseCountErrorCount := s.pulseCountErrorCount + 1#8
        signalIsOk :=
          if s.params.policyPulseCount = .always ∨
              (s.params.policyPulseCount = .ifJustTransmitted ∧ s.byteWasSent = true)
          then false else s.signalIsOk
        pulseCount := 0#16, prevPulseCount := 0#16, rsp := 0x00#8 }

/-- Window 5: one parity error, unconditionally, and the policy (R148, R152, R182). -/
def Obligations.TickAtTheParityWindow : Prop :=
  ∀ s : State, s.pulseCount = s.prevPulseCount → s.idleWindowCount = 4#8 →
    exec .tick s = .next
      { s with
        idleWindowCount := 5#8, parityErrorCount := s.parityErrorCount + 1#8
        signalIsOk :=
          if s.params.policyParity = .always ∨ (s.params.policyParity = .ifJustTransmitted ∧ s.byteWasSent = true)
          then false else s.signalIsOk
        rsp := 0x00#8 }

/-- Window 7: signal loss, the parity count taken back modulo 256, `byteWasSent` cleared, nothing else (R149, R183). -/
def Obligations.TickAtSignalLoss : Prop :=
  ∀ s : State, s.pulseCount = s.prevPulseCount → s.idleWindowCount = 6#8 →
    exec .tick s = .next
      { s with
        idleWindowCount := 7#8, signalIsOk := false, parityErrorCount := s.parityErrorCount - 1#8
        byteWasSent := false, rsp := 0x00#8 }

/-- QUIRK-PARITY-RETRACT: over a gap that goes on from window 4 to window 7 the parity error counted at window 5 is
taken back at window 7, for every policy and every value of the counter, and `signalIsOk` is false (R148, R149). -/
def Obligations.LostSignalRetractsTheParityError : Prop :=
  ∀ s : State, s.pulseCount = s.prevPulseCount → s.idleWindowCount = 4#8 →
    (∃ u, exec .tick s = .next u ∧ u.parityErrorCount = s.parityErrorCount + 1#8) ∧
    ∃ t, execAll [.tick, .tick, .tick] s = .next t ∧ t.parityErrorCount = s.parityErrorCount ∧
      t.signalIsOk = false ∧ t.byteWasSent = false ∧ t.idleWindowCount = 7#8 ∧
      t.pulseCountErrorCount = s.pulseCountErrorCount

/-- The ghost label of a tick says what the tick did: each class has its own counter effect, and a tick with no class
leaves the flags, the counters, the slot, the connections, the bytes sent and the pulse count alone (R140, R155,
R188). -/
def Obligations.TickLabelSaysWhatTheTickDid : Prop :=
  ∀ s t : State, exec .tick s = .next t →
    (s.tickLabel = .pulseCountError ↔ t.pulseCountErrorCount = s.pulseCountErrorCount + 1#8) ∧
    (s.tickLabel = .parityError ↔ t.parityErrorCount = s.parityErrorCount + 1#8) ∧
    (s.tickLabel = .signalLoss ↔ t.parityErrorCount = s.parityErrorCount - 1#8) ∧
    (s.tickLabel = .cycleOk → t.signalIsOk = true ∧ t.pulseCountErrorCount = s.pulseCountErrorCount ∧
      t.parityErrorCount = s.parityErrorCount) ∧
    (s.tickLabel = .none → t.signalIsOk = s.signalIsOk ∧ t.pulseCountErrorCount = s.pulseCountErrorCount ∧
      t.parityErrorCount = s.parityErrorCount ∧ t.slot = s.slot ∧ t.slotArmed = s.slotArmed ∧
      t.byteWasSent = s.byteWasSent ∧ t.conns = s.conns ∧ t.sinkTrace = s.sinkTrace ∧ t.pulseCount = s.pulseCount)

/-- `signalIsOk` goes from 1 to 0 by exactly three causes, all in TICK, and the tick that clears it does nothing to any
connection, queue or slot (R189). -/
def Obligations.SignalIsOkIsClearedByThreeCauses : Prop :=
  ∀ (i : Instr) (s t : State), exec i s = .next t → s.signalIsOk = true → t.signalIsOk = false →
    i = .tick ∧ s.pulseCount = s.prevPulseCount ∧
      ((s.idleWindowCount = 2#8 ∧ s.pulseCount ≠ 130#16 ∧ s.triggers s.params.policyPulseCount = true) ∨
        (s.idleWindowCount = 4#8 ∧ s.triggers s.params.policyParity = true) ∨ s.idleWindowCount = 6#8) ∧
      t.conns = s.conns ∧ t.slot = s.slot ∧ t.slotArmed = s.slotArmed ∧ t.sinkTrace = s.sinkTrace

/-- `signalIsOk` becomes 1 only by a TICK at window 3 with 130 pulses (R144). -/
def Obligations.SynchronisationIsGainedOnlyAtAGoodBoundary : Prop :=
  ∀ (i : Instr) (s t : State), exec i s = .next t → s.signalIsOk = false → t.signalIsOk = true →
    i = .tick ∧ s.pulseCount = s.prevPulseCount ∧ s.idleWindowCount = 2#8 ∧ s.pulseCount = 130#16

/-- `n` pulses counted from zero and three silent ticks always end in the window-3 decision, which is good exactly when
the 16-bit count is 130; a wrong total counts one pulse-count error and follows the policy, whichever of the three it is
(R93, R144, R145, R146). Where the count has wrapped to 0, or no pulse came, the first tick sees no change, and the
decision is then the third tick's only from window 0, as after reset. -/
def Obligations.ThreeSilentTicksJudgeTheCycle : Prop :=
  ∀ (s : State) (n : Nat), s.pulseCount = 0#16 → s.prevPulseCount = 0#16 →
    (n % 65536 ≠ 0 ∨ s.idleWindowCount = 0#8) →
    ∃ t, execAll (pulses n ++ silence 3) s = .next t ∧
      t.idleWindowCount = 3#8 ∧ t.pulseCount = 0#16 ∧ t.prevPulseCount = 0#16 ∧
      t.parityErrorCount = s.parityErrorCount ∧ t.conns = s.conns ∧
      (n % 65536 = 130 → t.signalIsOk = true ∧ t.pulseCountErrorCount = s.pulseCountErrorCount) ∧
      (n % 65536 ≠ 130 → t.pulseCountErrorCount = s.pulseCountErrorCount + 1#8 ∧
        (s.params.policyPulseCount = .always → t.signalIsOk = false) ∧
        (s.params.policyPulseCount = .never → t.signalIsOk = s.signalIsOk) ∧
        (s.params.policyPulseCount = .ifJustTransmitted → t.signalIsOk = (s.signalIsOk && !t.byteWasSent)))

/-! ### POLL -/

/-- The desynchronised branch: the connection enters the cascade, and the slot is emptied exactly when it holds a byte
with the connection's address (R124, R190). -/
def Obligations.PollWhileDesynchronised : Prop :=
  ∀ (s : State) c k, s.connAt c = some k → s.signalIsOk = false →
    (∀ x, s.slot = some x → x.addr = k.address →
      exec (.poll c) s = .next
        { s with
          slot := none, slotArmed := false
          conns := s.conns.set c.toNat { k with feedbackRequested := false, state := .unsynchronized, queue := [] }
          rsp := 0x00#8 }) ∧
    ((s.slot = none ∨ ∃ x, s.slot = some x ∧ x.addr ≠ k.address) →
      exec (.poll c) s = .next
        { s with
          conns := s.conns.set c.toNat { k with feedbackRequested := false, state := .unsynchronized, queue := [] }
          rsp := 0x00#8 })

/-- Synchronised, in `Unsynchronized`: "feedback requested" is raised, no handoff is tried (R125). -/
def Obligations.PollRaisesTheRequest : Prop :=
  ∀ (s : State) c k, s.connAt c = some k → s.signalIsOk = true → k.state = .unsynchronized →
    exec (.poll c) s = .next
      { s with
        conns := s.conns.set c.toNat { k with feedbackRequested := true, state := .feedbackNeeded }
        rsp := 0x00#8 }

/-- Synchronised, in `FeedbackNeeded`: on to `SendingNibble1` once the request has been cleared, and until then nothing
changes (R126). -/
def Obligations.PollWaitsForTheAnswer : Prop :=
  ∀ (s : State) c k, s.connAt c = some k → s.signalIsOk = true → k.state = .feedbackNeeded →
    (k.feedbackRequested = true → exec (.poll c) s = .next { s with rsp := 0x00#8 }) ∧
    (k.feedbackRequested = false →
      exec (.poll c) s = .next
        { s with conns := s.conns.set c.toNat { k with state := .sendingNibble1 }, rsp := 0x00#8 })

/-- In the last three states a handoff that can be made is made: the oldest entry goes from the queue into the empty
slot with the connection's address, armed as `ARM_POLICY` says, and the state goes on (R127 to R130). -/
def Obligations.PollHandsTheOldestFrameOver : Prop :=
  ∀ (s : State) c k f q, s.connAt c = some k → s.signalIsOk = true → k.queue = f :: q → s.slot = none →
    1 ≤ k.address.toNat → k.address.toNat ≤ 128 →
    (k.state = .sendingNibble1 →
      exec (.poll c) s = .next
        { s with
          slot := some ⟨k.address, f⟩, slotArmed := s.params.armPolicy == .immediate
          conns := s.conns.set c.toNat { k with queue := q, state := .sendingNibble2 }, rsp := 0x00#8 }) ∧
    (k.state = .sendingNibble2 ∨ k.state = .connected →
      exec (.poll c) s = .next
        { s with
          slot := some ⟨k.address, f⟩, slotArmed := s.params.armPolicy == .immediate
          conns := s.conns.set c.toNat { k with queue := q, state := .connected }, rsp := 0x00#8 })

/-- A handoff that cannot be made (queue empty, slot occupied or address out of range) changes nothing (R127 to
R130). -/
def Obligations.PollWithoutAHandoffChangesNothing : Prop :=
  ∀ (s : State) c k, s.connAt c = some k → s.signalIsOk = true →
    (k.state = .sendingNibble1 ∨ k.state = .sendingNibble2 ∨ k.state = .connected) →
    (k.queue = [] ∨ s.slot ≠ none ∨ k.address.toNat = 0 ∨ 129 ≤ k.address.toNat) →
    exec (.poll c) s = .next { s with rsp := 0x00#8 }

/-- The transition graph, complete: what POLL and CFG of a connection do to its state, and that no other event changes
it (R133). -/
def Obligations.ConnectionStatesFollowTheTable : Prop :=
  ∀ (i : Instr) (s t : State) c k k', exec i s = .next t → s.connAt c = some k → t.connAt c = some k' →
    (i = .poll c → k'.state = pollTarget s k ∧
      (s.signalIsOk = true → k.state = .unsynchronized → k'.feedbackRequested = true) ∧
      (s.signalIsOk = true → (k.state = .sendingNibble1 ∨ k.state = .sendingNibble2 ∨ k.state = .connected) →
        s.canHandoff k = true → t.slot = some ⟨k.address, (pop k.queue).1⟩)) ∧
    (∀ a d f, i = .cfg c a d f → k'.state = .unsynchronized) ∧
    (i ≠ .poll c → (∀ a d f, i ≠ .cfg c a d f) → k'.state = k.state)

/-- The cascade and the way back: a POLL that sees `signalIsOk` = 0 leaves the queue empty, the request cleared, the
state `Unsynchronized` and no byte of this address in the slot, and the next POLL after `signalIsOk` has become 1
raises the request again (R190, R192). -/
def Obligations.DesynchronisedConnectionReannounces : Prop :=
  ∀ (s : State) c k, s.connAt c = some k → s.signalIsOk = false →
    ∃ t u, exec (.poll c) s = .next t ∧ exec (.poll c) { t with signalIsOk := true } = .next u ∧
      t.connAt c = some { k with feedbackRequested := false, state := .unsynchronized, queue := [] } ∧
      (∀ x, t.slot = some x → x.addr ≠ k.address) ∧
      u.connAt c = some { k with feedbackRequested := true, state := .feedbackNeeded, queue := [] } ∧
      u.slot = t.slot

/-- The slot is never overwritten, and only a POLL of a synchronised block fills it, with the oldest entry of an
existing connection whose address is in range (R69, R130). -/
def Obligations.SlotIsFilledOnlyWhenEmpty : Prop :=
  ∀ (i : Instr) (s t : State) y, exec i s = .next t → t.slot = some y →
    s.slot = some y ∨
      (s.slot = none ∧ s.signalIsOk = true ∧
        ∃ c k q, i = .poll c ∧ s.connAt c = some k ∧ k.queue = y.frame :: q ∧ y.addr = k.address ∧
          1 ≤ y.addr.toNat ∧ y.addr.toNat ≤ 128)

/-- A connection whose address is 0 or above 128 never puts a byte into the slot (R30, R210). -/
def Obligations.AddressOutOfRangeNeverFillsTheSlot : Prop :=
  ∀ (s t : State) c k x, s.connAt c = some k → (k.address.toNat = 0 ∨ 129 ≤ k.address.toNat) →
    exec (.poll c) s = .next t → t.slot = some x → s.slot = some x

/-- A handed-over byte goes out on the pulse whose number is its address: with `ARM_POLICY = Immediate`, a handoff made
in any of the three states that hand off, before the address has gone by in the cycle, then as many pulses as are
missing, hands exactly that byte to the sink, with its address as the pulse number, and leaves the slot empty (R127 to
R130, R160). -/
def Obligations.HandedOverByteGoesOutOnItsPulse : Prop :=
  ∀ (s : State) c k f q, s.connAt c = some k → s.signalIsOk = true → k.handsOff → k.queue = f :: q →
    s.slot = none → k.address.toNat ≤ 128 → s.pulseCount.toNat < k.address.toNat →
    s.params.armPolicy = .immediate →
    ∃ t, execAll (.poll c :: pulses (k.address.toNat - s.pulseCount.toNat)) s = .next t ∧
      t.sinkTrace = s.sinkTrace ++ [⟨k.address.zeroExtend 16, sinkByte s.params f⟩] ∧
      t.slot = none ∧ t.slotArmed = false ∧ t.byteWasSent = true ∧ t.pulseCount = k.address.zeroExtend 16 ∧
      t.conns = s.conns.set c.toNat
        { k with queue := q, state := if k.state = .sendingNibble1 then .sendingNibble2 else .connected }

/-- With `ARM_POLICY = Boundary` a handed-over byte waits for the next good cycle boundary: the pulses that complete the
cycle of 130 send nothing, its three silent ticks arm the slot, and the byte then goes out on the pulse whose number is
its address (R28, R130, R144, R160). -/
def Obligations.HandedOverByteWaitsForTheBoundary : Prop :=
  ∀ (s : State) c k f q, s.connAt c = some k → s.signalIsOk = true → k.handsOff → k.queue = f :: q →
    s.slot = none → 1 ≤ k.address.toNat → k.address.toNat ≤ 128 → s.pulseCount.toNat ≤ 130 →
    s.prevPulseCount ≠ 130#16 → s.params.armPolicy = .boundary →
    ∃ t u, execAll (.poll c :: (pulses (130 - s.pulseCount.toNat) ++ silence 3)) s = .next t ∧
      t.sinkTrace = s.sinkTrace ∧ t.slot = some ⟨k.address, f⟩ ∧ t.slotArmed = true ∧ t.signalIsOk = true ∧
      execAll (pulses k.address.toNat) t = .next u ∧
      u.sinkTrace = s.sinkTrace ++ [⟨k.address.zeroExtend 16, sinkByte s.params f⟩] ∧
      u.slot = none ∧ u.slotArmed = false ∧ u.byteWasSent = true ∧ u.pulseCount = k.address.zeroExtend 16

/-! ### CFG, REQ4, REQ8 and the reads -/

/-- The result of CFG, whole: the claim under the old address released, the three registers written, the connection as
after a desynchronisation (R120). -/
def Obligations.ConfigureResult : Prop :=
  ∀ (s : State) c k a d f, s.connAt c = some k →
    (∀ x, s.slot = some x → x.addr = k.address →
      exec (.cfg c a d f) s = .next
        { s with slot := none, slotArmed := false
                 conns := s.conns.set c.toNat ⟨a, d, f, .unsynchronized, false, []⟩, rsp := 0x00#8 }) ∧
    ((s.slot = none ∨ ∃ x, s.slot = some x ∧ x.addr ≠ k.address) →
      exec (.cfg c a d f) s = .next
        { s with conns := s.conns.set c.toNat ⟨a, d, f, .unsynchronized, false, []⟩, rsp := 0x00#8 })

/-- The result of REQ4, whole: as many of the `k + 1` copies of the encoded frame as the queue has room for are
appended, and nothing else changes (R104, R121). -/
def Obligations.RequestNibbleResult : Prop :=
  ∀ (s : State) c k pos v, s.connAt c = some k →
    exec (.req4 c pos v) s = .next
      { s with
        conns := s.conns.set c.toNat
          { k with
            queue := k.queue ++
              List.replicate (min (k.fecFactor.toNat + 1) (16 - k.queue.length)) (encNib s.params pos v k.deviceType) }
        rsp := 0x00#8 }

/-- The result of REQ8, whole: all copies of the low frame, then all copies of the high frame, as far as there is room,
and the request cleared whatever was dropped (R102, R104, R122). -/
def Obligations.RequestByteResult : Prop :=
  ∀ (s : State) c k x q₁ q₂, s.connAt c = some k →
    q₁ = k.queue ++ List.replicate (min (k.fecFactor.toNat + 1) (16 - k.queue.length))
      (encNib s.params .low (x.extractLsb' 0 4) k.deviceType) →
    q₂ = q₁ ++ List.replicate (min (k.fecFactor.toNat + 1) (16 - q₁.length))
      (encNib s.params .high (x.extractLsb' 4 4) k.deviceType) →
    exec (.req8 c x) s = .next
      { s with conns := s.conns.set c.toNat { k with queue := q₂, feedbackRequested := false }, rsp := 0x00#8 }

/-- The four reads return their value and change no state (R131, R170, R171, R172). -/
def Obligations.ReadsReturnTheirRegister : Prop :=
  (∀ (s : State) c k, s.connAt c = some k →
    exec (.rdfb c) s = .next { s with rsp := if k.feedbackRequested = true then 0x01#8 else 0x00#8 }) ∧
  (∀ s : State, exec .rdok s = .next { s with rsp := if s.signalIsOk = true then 0x01#8 else 0x00#8 }) ∧
  (∀ s : State, exec .rdpar s = .next { s with rsp := s.parityErrorCount }) ∧
  (∀ s : State, exec .rdpce s = .next { s with rsp := s.pulseCountErrorCount })

/-- `feedbackRequested` is set only by the POLL that leaves `Unsynchronized`, and cleared only by REQ8, by CFG and by a
POLL that sees `signalIsOk` = 0 (R34, R39). -/
def Obligations.FeedbackRequestedHasTheseWriters : Prop :=
  ∀ (i : Instr) (s t : State) c k k', exec i s = .next t → s.connAt c = some k → t.connAt c = some k' →
    (k.feedbackRequested = false → k'.feedbackRequested = true →
      i = .poll c ∧ s.signalIsOk = true ∧ k.state = .unsynchronized) ∧
    (k.feedbackRequested = true → k'.feedbackRequested = false →
      (∃ x, i = .req8 c x) ∨ (∃ a d f, i = .cfg c a d f) ∨ (i = .poll c ∧ s.signalIsOk = false))

/-- An event leaves every connection it is not addressed to as it was (R61, R198). -/
def Obligations.OtherConnectionsAreUntouched : Prop :=
  ∀ (i : Instr) (s t : State) c, exec i s = .next t → i.conn ≠ some c → t.connAt c = s.connAt c

/-- The host's events write no SyncState register but the slot, and send nothing (R41, R174). -/
def Obligations.HostEventsLeaveTheSyncState : Prop :=
  ∀ (i : Instr) (s t : State), exec i s = .next t → i ≠ .pulse → i ≠ .tick →
    t.signalIsOk = s.signalIsOk ∧ t.idleWindowCount = s.idleWindowCount ∧ t.pulseCount = s.pulseCount ∧
      t.prevPulseCount = s.prevPulseCount ∧ t.parityErrorCount = s.parityErrorCount ∧
      t.pulseCountErrorCount = s.pulseCountErrorCount ∧ t.byteWasSent = s.byteWasSent ∧ t.sinkTrace = s.sinkTrace

/-- Requests of two different connections commute (R67). -/
def Obligations.RequestsOfDifferentConnectionsCommute : Prop :=
  ∀ (i j : Instr) c d (s : State), isRequestOf i c → isRequestOf j d → c ≠ d → execAll [i, j] s = execAll [j, i] s

/-! ### Invariants -/

/-- The invariant holds after reset, for every value of the OPEN parameters (R40, R42). -/
def Obligations.InvariantHoldsAtReset : Prop := State.reset.Inv

/-- Every step keeps the invariant: INV3, INV4, INV5, INV7, the zero copy behind INV6, the number of connections, and
that a request is pending only in `FeedbackNeeded` (R40). -/
def Obligations.EveryStepKeepsTheInvariant : Prop :=
  ∀ s t : State, s.Inv → step s = .next t → t.Inv

/-- INV6: after a TICK that left `idleWindowCount >= 3`, both pulse counts are 0 (R40). -/
def Obligations.SilenceLeavesBothCountsZero : Prop :=
  ∀ s t : State, s.Inv → exec .tick s = .next t → 3 ≤ t.idleWindowCount.toNat →
    t.pulseCount = 0#16 ∧ t.prevPulseCount = 0#16

/-- No step changes the parameters or the number of connections (R37). -/
def Obligations.ParametersNeverChange : Prop :=
  ∀ s t : State, step s = .next t → t.params = s.params ∧ t.nconn = s.nconn
end

