-- ==== Sys2Proof/Laws/Encoding.lean ====
section
/-! SUPPORT. The fields of a word that the encoder writes, one lemma for each field. -/

namespace Sys2Proof

section
variable (op conn : BitVec 4) (a b c : Byte)

@[simp] theorem opField_eventWord : opField (eventWord op conn a b c) = op := by
  apply BitVec.eq_of_getLsbD_eq
  intro i hi
  simp only [opField, eventWord, BitVec.getLsbD_extractLsb', BitVec.getLsbD_append]
  simp [hi, show ¬ (28 + i < 8) by omega, show ¬ (28 + i - 8 < 8) by omega, show ¬ (28 + i - 8 - 8 < 8) by omega,
    show ¬ (28 + i - 8 - 8 - 8 < 4) by omega, show 28 + i - 8 - 8 - 8 - 4 = i by omega]

@[simp] theorem connField_eventWord : connField (eventWord op conn a b c) = conn := by
  apply BitVec.eq_of_getLsbD_eq
  intro i hi
  simp only [connField, eventWord, BitVec.getLsbD_extractLsb', BitVec.getLsbD_append]
  simp [hi, show ¬ (24 + i < 8) by omega, show ¬ (24 + i - 8 < 8) by omega, show ¬ (24 + i - 8 - 8 < 8) by omega,
    show 24 + i - 8 - 8 - 8 = i by omega]

@[simp] theorem aField_eventWord : aField (eventWord op conn a b c) = a := by
  apply BitVec.eq_of_getLsbD_eq
  intro i hi
  simp only [aField, eventWord, BitVec.getLsbD_extractLsb', BitVec.getLsbD_append]
  simp [hi, show ¬ (16 + i < 8) by omega, show ¬ (16 + i - 8 < 8) by omega, show 16 + i - 8 - 8 = i by omega]

@[simp] theorem bField_eventWord : bField (eventWord op conn a b c) = b := by
  apply BitVec.eq_of_getLsbD_eq
  intro i hi
  simp only [bField, eventWord, BitVec.getLsbD_extractLsb', BitVec.getLsbD_append]
  simp [hi, show ¬ (8 + i < 8) by omega]

@[simp] theorem cField_eventWord : cField (eventWord op conn a b c) = c := by
  apply BitVec.eq_of_getLsbD_eq
  intro i hi
  simp only [cField, eventWord, BitVec.getLsbD_extractLsb', BitVec.getLsbD_append]
  simp [hi]

end

@[simp] theorem bitByte_zero (v : Bool) : (bitByte v)[0] = v := by
  revert v; decide

@[simp] theorem DeviceType.ofBit_toBit (t : DeviceType) : DeviceType.ofBit t.toBit = t := by
  cases t <;> rfl

@[simp] theorem Position.ofBit_toBit (p : Position) : Position.ofBit p.toBit = p := by
  cases p <;> rfl

/-- The bits 6:4 of a frame byte are its type bits and its nibble-select (R81). -/
@[simp] theorem frameByte_ttn (p : Bool) (ttn : BitVec 3) (d : Nibble) : (frameByte p ttn d).extractLsb' 4 3 = ttn := by
  revert p ttn d; decide

/-- Bit 7 of a frame byte is its parity bit (R81). -/
@[simp] theorem frameByte_parity (p : Bool) (ttn : BitVec 3) (d : Nibble) : (frameByte p ttn d)[7] = p := by
  revert p ttn d; decide

/-- The bits 3:0 of a frame byte are its data bits (R81). -/
@[simp] theorem frameByte_data (p : Bool) (ttn : BitVec 3) (d : Nibble) : (frameByte p ttn d).extractLsb' 0 4 = d := by
  revert p ttn d; decide

end Sys2Proof
end

