-- ==== Sys2Proof/Laws/State.lean ====
section
/-! SUPPORT. One lemma for each field of State and each named update of it, true by rfl, so that no proof unfolds a
record update. -/

namespace Sys2Proof.Machine

variable (s : State)

/-! ### writing a connection record -/

@[simp] theorem State.setConn_signalIsOk (c : ConnId) (k : Connection) : (s.setConn c k).signalIsOk = s.signalIsOk := rfl
@[simp] theorem State.setConn_idleWindowCount (c : ConnId) (k : Connection) : (s.setConn c k).idleWindowCount = s.idleWindowCount := rfl
@[simp] theorem State.setConn_pulseCount (c : ConnId) (k : Connection) : (s.setConn c k).pulseCount = s.pulseCount := rfl
@[simp] theorem State.setConn_prevPulseCount (c : ConnId) (k : Connection) : (s.setConn c k).prevPulseCount = s.prevPulseCount := rfl
@[simp] theorem State.setConn_parityErrorCount (c : ConnId) (k : Connection) : (s.setConn c k).parityErrorCount = s.parityErrorCount := rfl
@[simp] theorem State.setConn_pulseCountErrorCount (c : ConnId) (k : Connection) : (s.setConn c k).pulseCountErrorCount = s.pulseCountErrorCount := rfl
@[simp] theorem State.setConn_slot (c : ConnId) (k : Connection) : (s.setConn c k).slot = s.slot := rfl
@[simp] theorem State.setConn_slotArmed (c : ConnId) (k : Connection) : (s.setConn c k).slotArmed = s.slotArmed := rfl
@[simp] theorem State.setConn_byteWasSent (c : ConnId) (k : Connection) : (s.setConn c k).byteWasSent = s.byteWasSent := rfl
@[simp] theorem State.setConn_conns (c : ConnId) (k : Connection) : (s.setConn c k).conns = s.conns.set c.toNat k := rfl
@[simp] theorem State.setConn_sinkTrace (c : ConnId) (k : Connection) : (s.setConn c k).sinkTrace = s.sinkTrace := rfl
@[simp] theorem State.setConn_rsp (c : ConnId) (k : Connection) : (s.setConn c k).rsp = s.rsp := rfl
@[simp] theorem State.setConn_arrivals (c : ConnId) (k : Connection) : (s.setConn c k).arrivals = s.arrivals := rfl
@[simp] theorem State.setConn_params (c : ConnId) (k : Connection) : (s.setConn c k).params = s.params := rfl

/-! ### writing `signalIsOk` -/

@[simp] theorem State.setSignalIsOk_signalIsOk (b : Bool) : (s.setSignalIsOk b).signalIsOk = b := rfl
@[simp] theorem State.setSignalIsOk_idleWindowCount (b : Bool) : (s.setSignalIsOk b).idleWindowCount = s.idleWindowCount := rfl
@[simp] theorem State.setSignalIsOk_pulseCount (b : Bool) : (s.setSignalIsOk b).pulseCount = s.pulseCount := rfl
@[simp] theorem State.setSignalIsOk_prevPulseCount (b : Bool) : (s.setSignalIsOk b).prevPulseCount = s.prevPulseCount := rfl
@[simp] theorem State.setSignalIsOk_parityErrorCount (b : Bool) : (s.setSignalIsOk b).parityErrorCount = s.parityErrorCount := rfl
@[simp] theorem State.setSignalIsOk_pulseCountErrorCount (b : Bool) : (s.setSignalIsOk b).pulseCountErrorCount = s.pulseCountErrorCount := rfl
@[simp] theorem State.setSignalIsOk_slot (b : Bool) : (s.setSignalIsOk b).slot = s.slot := rfl
@[simp] theorem State.setSignalIsOk_slotArmed (b : Bool) : (s.setSignalIsOk b).slotArmed = s.slotArmed := rfl
@[simp] theorem State.setSignalIsOk_byteWasSent (b : Bool) : (s.setSignalIsOk b).byteWasSent = s.byteWasSent := rfl
@[simp] theorem State.setSignalIsOk_conns (b : Bool) : (s.setSignalIsOk b).conns = s.conns := rfl
@[simp] theorem State.setSignalIsOk_sinkTrace (b : Bool) : (s.setSignalIsOk b).sinkTrace = s.sinkTrace := rfl
@[simp] theorem State.setSignalIsOk_rsp (b : Bool) : (s.setSignalIsOk b).rsp = s.rsp := rfl
@[simp] theorem State.setSignalIsOk_arrivals (b : Bool) : (s.setSignalIsOk b).arrivals = s.arrivals := rfl
@[simp] theorem State.setSignalIsOk_params (b : Bool) : (s.setSignalIsOk b).params = s.params := rfl

/-! ### writing `byteWasSent` -/

@[simp] theorem State.setByteWasSent_signalIsOk (b : Bool) : (s.setByteWasSent b).signalIsOk = s.signalIsOk := rfl
@[simp] theorem State.setByteWasSent_idleWindowCount (b : Bool) : (s.setByteWasSent b).idleWindowCount = s.idleWindowCount := rfl
@[simp] theorem State.setByteWasSent_pulseCount (b : Bool) : (s.setByteWasSent b).pulseCount = s.pulseCount := rfl
@[simp] theorem State.setByteWasSent_prevPulseCount (b : Bool) : (s.setByteWasSent b).prevPulseCount = s.prevPulseCount := rfl
@[simp] theorem State.setByteWasSent_parityErrorCount (b : Bool) : (s.setByteWasSent b).parityErrorCount = s.parityErrorCount := rfl
@[simp] theorem State.setByteWasSent_pulseCountErrorCount (b : Bool) : (s.setByteWasSent b).pulseCountErrorCount = s.pulseCountErrorCount := rfl
@[simp] theorem State.setByteWasSent_slot (b : Bool) : (s.setByteWasSent b).slot = s.slot := rfl
@[simp] theorem State.setByteWasSent_slotArmed (b : Bool) : (s.setByteWasSent b).slotArmed = s.slotArmed := rfl
@[simp] theorem State.setByteWasSent_byteWasSent (b : Bool) : (s.setByteWasSent b).byteWasSent = b := rfl
@[simp] theorem State.setByteWasSent_conns (b : Bool) : (s.setByteWasSent b).conns = s.conns := rfl
@[simp] theorem State.setByteWasSent_sinkTrace (b : Bool) : (s.setByteWasSent b).sinkTrace = s.sinkTrace := rfl
@[simp] theorem State.setByteWasSent_rsp (b : Bool) : (s.setByteWasSent b).rsp = s.rsp := rfl
@[simp] theorem State.setByteWasSent_arrivals (b : Bool) : (s.setByteWasSent b).arrivals = s.arrivals := rfl
@[simp] theorem State.setByteWasSent_params (b : Bool) : (s.setByteWasSent b).params = s.params := rfl

/-! ### emptying the slot -/

@[simp] theorem State.emptySlot_signalIsOk : s.emptySlot.signalIsOk = s.signalIsOk := rfl
@[simp] theorem State.emptySlot_idleWindowCount : s.emptySlot.idleWindowCount = s.idleWindowCount := rfl
@[simp] theorem State.emptySlot_pulseCount : s.emptySlot.pulseCount = s.pulseCount := rfl
@[simp] theorem State.emptySlot_prevPulseCount : s.emptySlot.prevPulseCount = s.prevPulseCount := rfl
@[simp] theorem State.emptySlot_parityErrorCount : s.emptySlot.parityErrorCount = s.parityErrorCount := rfl
@[simp] theorem State.emptySlot_pulseCountErrorCount : s.emptySlot.pulseCountErrorCount = s.pulseCountErrorCount := rfl
@[simp] theorem State.emptySlot_slot : s.emptySlot.slot = none := rfl
@[simp] theorem State.emptySlot_slotArmed : s.emptySlot.slotArmed = false := rfl
@[simp] theorem State.emptySlot_byteWasSent : s.emptySlot.byteWasSent = s.byteWasSent := rfl
@[simp] theorem State.emptySlot_conns : s.emptySlot.conns = s.conns := rfl
@[simp] theorem State.emptySlot_sinkTrace : s.emptySlot.sinkTrace = s.sinkTrace := rfl
@[simp] theorem State.emptySlot_rsp : s.emptySlot.rsp = s.rsp := rfl
@[simp] theorem State.emptySlot_arrivals : s.emptySlot.arrivals = s.arrivals := rfl
@[simp] theorem State.emptySlot_params : s.emptySlot.params = s.params := rfl

/-! ### filling the slot -/

@[simp] theorem State.fillSlot_signalIsOk (x : Slot) : (s.fillSlot x).signalIsOk = s.signalIsOk := rfl
@[simp] theorem State.fillSlot_idleWindowCount (x : Slot) : (s.fillSlot x).idleWindowCount = s.idleWindowCount := rfl
@[simp] theorem State.fillSlot_pulseCount (x : Slot) : (s.fillSlot x).pulseCount = s.pulseCount := rfl
@[simp] theorem State.fillSlot_prevPulseCount (x : Slot) : (s.fillSlot x).prevPulseCount = s.prevPulseCount := rfl
@[simp] theorem State.fillSlot_parityErrorCount (x : Slot) : (s.fillSlot x).parityErrorCount = s.parityErrorCount := rfl
@[simp] theorem State.fillSlot_pulseCountErrorCount (x : Slot) : (s.fillSlot x).pulseCountErrorCount = s.pulseCountErrorCount := rfl
@[simp] theorem State.fillSlot_slot (x : Slot) : (s.fillSlot x).slot = some x := rfl
@[simp] theorem State.fillSlot_slotArmed (x : Slot) : (s.fillSlot x).slotArmed = armedOnFill s.params := rfl
@[simp] theorem State.fillSlot_byteWasSent (x : Slot) : (s.fillSlot x).byteWasSent = s.byteWasSent := rfl
@[simp] theorem State.fillSlot_conns (x : Slot) : (s.fillSlot x).conns = s.conns := rfl
@[simp] theorem State.fillSlot_sinkTrace (x : Slot) : (s.fillSlot x).sinkTrace = s.sinkTrace := rfl
@[simp] theorem State.fillSlot_rsp (x : Slot) : (s.fillSlot x).rsp = s.rsp := rfl
@[simp] theorem State.fillSlot_arrivals (x : Slot) : (s.fillSlot x).arrivals = s.arrivals := rfl
@[simp] theorem State.fillSlot_params (x : Slot) : (s.fillSlot x).params = s.params := rfl

/-! ### the response -/

@[simp] theorem State.respond_signalIsOk (v : Byte) : (s.respond v).signalIsOk = s.signalIsOk := rfl
@[simp] theorem State.respond_idleWindowCount (v : Byte) : (s.respond v).idleWindowCount = s.idleWindowCount := rfl
@[simp] theorem State.respond_pulseCount (v : Byte) : (s.respond v).pulseCount = s.pulseCount := rfl
@[simp] theorem State.respond_prevPulseCount (v : Byte) : (s.respond v).prevPulseCount = s.prevPulseCount := rfl
@[simp] theorem State.respond_parityErrorCount (v : Byte) : (s.respond v).parityErrorCount = s.parityErrorCount := rfl
@[simp] theorem State.respond_pulseCountErrorCount (v : Byte) : (s.respond v).pulseCountErrorCount = s.pulseCountErrorCount := rfl
@[simp] theorem State.respond_slot (v : Byte) : (s.respond v).slot = s.slot := rfl
@[simp] theorem State.respond_slotArmed (v : Byte) : (s.respond v).slotArmed = s.slotArmed := rfl
@[simp] theorem State.respond_byteWasSent (v : Byte) : (s.respond v).byteWasSent = s.byteWasSent := rfl
@[simp] theorem State.respond_conns (v : Byte) : (s.respond v).conns = s.conns := rfl
@[simp] theorem State.respond_sinkTrace (v : Byte) : (s.respond v).sinkTrace = s.sinkTrace := rfl
@[simp] theorem State.respond_rsp (v : Byte) : (s.respond v).rsp = v := rfl
@[simp] theorem State.respond_arrivals (v : Byte) : (s.respond v).arrivals = s.arrivals := rfl
@[simp] theorem State.respond_params (v : Byte) : (s.respond v).params = s.params := rfl

/-! ### sending a byte -/

@[simp] theorem State.sinkSend_signalIsOk (b : Byte) : (s.sinkSend b).signalIsOk = s.signalIsOk := rfl
@[simp] theorem State.sinkSend_idleWindowCount (b : Byte) : (s.sinkSend b).idleWindowCount = s.idleWindowCount := rfl
@[simp] theorem State.sinkSend_pulseCount (b : Byte) : (s.sinkSend b).pulseCount = s.pulseCount := rfl
@[simp] theorem State.sinkSend_prevPulseCount (b : Byte) : (s.sinkSend b).prevPulseCount = s.prevPulseCount := rfl
@[simp] theorem State.sinkSend_parityErrorCount (b : Byte) : (s.sinkSend b).parityErrorCount = s.parityErrorCount := rfl
@[simp] theorem State.sinkSend_pulseCountErrorCount (b : Byte) : (s.sinkSend b).pulseCountErrorCount = s.pulseCountErrorCount := rfl
@[simp] theorem State.sinkSend_slot (b : Byte) : (s.sinkSend b).slot = s.slot := rfl
@[simp] theorem State.sinkSend_slotArmed (b : Byte) : (s.sinkSend b).slotArmed = s.slotArmed := rfl
@[simp] theorem State.sinkSend_byteWasSent (b : Byte) : (s.sinkSend b).byteWasSent = s.byteWasSent := rfl
@[simp] theorem State.sinkSend_conns (b : Byte) : (s.sinkSend b).conns = s.conns := rfl
@[simp] theorem State.sinkSend_sinkTrace (b : Byte) : (s.sinkSend b).sinkTrace = s.sinkTrace ++ [⟨s.pulseCount, sinkByte s.params b⟩] := rfl
@[simp] theorem State.sinkSend_rsp (b : Byte) : (s.sinkSend b).rsp = s.rsp := rfl
@[simp] theorem State.sinkSend_arrivals (b : Byte) : (s.sinkSend b).arrivals = s.arrivals := rfl
@[simp] theorem State.sinkSend_params (b : Byte) : (s.sinkSend b).params = s.params := rfl

/-! ### counting a pulse -/

@[simp] theorem State.countPulse_signalIsOk : s.countPulse.signalIsOk = s.signalIsOk := rfl
@[simp] theorem State.countPulse_idleWindowCount : s.countPulse.idleWindowCount = s.idleWindowCount := rfl
@[simp] theorem State.countPulse_pulseCount : s.countPulse.pulseCount = s.pulseCount + 1#16 := rfl
@[simp] theorem State.countPulse_prevPulseCount : s.countPulse.prevPulseCount = s.prevPulseCount := rfl
@[simp] theorem State.countPulse_parityErrorCount : s.countPulse.parityErrorCount = s.parityErrorCount := rfl
@[simp] theorem State.countPulse_pulseCountErrorCount : s.countPulse.pulseCountErrorCount = s.pulseCountErrorCount := rfl
@[simp] theorem State.countPulse_slot : s.countPulse.slot = s.slot := rfl
@[simp] theorem State.countPulse_slotArmed : s.countPulse.slotArmed = s.slotArmed := rfl
@[simp] theorem State.countPulse_byteWasSent : s.countPulse.byteWasSent = if s.pulseCount = 0#16 then false else s.byteWasSent := rfl
@[simp] theorem State.countPulse_conns : s.countPulse.conns = s.conns := rfl
@[simp] theorem State.countPulse_sinkTrace : s.countPulse.sinkTrace = s.sinkTrace := rfl
@[simp] theorem State.countPulse_rsp : s.countPulse.rsp = s.rsp := rfl
@[simp] theorem State.countPulse_arrivals : s.countPulse.arrivals = s.arrivals := rfl
@[simp] theorem State.countPulse_params : s.countPulse.params = s.params := rfl

/-! ### the changed branch of a tick -/

@[simp] theorem State.recordPulses_signalIsOk : s.recordPulses.signalIsOk = s.signalIsOk := rfl
@[simp] theorem State.recordPulses_idleWindowCount : s.recordPulses.idleWindowCount = 1#8 := rfl
@[simp] theorem State.recordPulses_pulseCount : s.recordPulses.pulseCount = s.pulseCount := rfl
@[simp] theorem State.recordPulses_prevPulseCount : s.recordPulses.prevPulseCount = s.pulseCount := rfl
@[simp] theorem State.recordPulses_parityErrorCount : s.recordPulses.parityErrorCount = s.parityErrorCount := rfl
@[simp] theorem State.recordPulses_pulseCountErrorCount : s.recordPulses.pulseCountErrorCount = s.pulseCountErrorCount := rfl
@[simp] theorem State.recordPulses_slot : s.recordPulses.slot = s.slot := rfl
@[simp] theorem State.recordPulses_slotArmed : s.recordPulses.slotArmed = s.slotArmed := rfl
@[simp] theorem State.recordPulses_byteWasSent : s.recordPulses.byteWasSent = s.byteWasSent := rfl
@[simp] theorem State.recordPulses_conns : s.recordPulses.conns = s.conns := rfl
@[simp] theorem State.recordPulses_sinkTrace : s.recordPulses.sinkTrace = s.sinkTrace := rfl
@[simp] theorem State.recordPulses_rsp : s.recordPulses.rsp = s.rsp := rfl
@[simp] theorem State.recordPulses_arrivals : s.recordPulses.arrivals = s.arrivals := rfl
@[simp] theorem State.recordPulses_params : s.recordPulses.params = s.params := rfl

/-! ### counting an idle window -/

@[simp] theorem State.countWindow_signalIsOk : s.countWindow.signalIsOk = s.signalIsOk := rfl
@[simp] theorem State.countWindow_idleWindowCount : s.countWindow.idleWindowCount = BitVec.ofNat 8 s.nextWindow := rfl
@[simp] theorem State.countWindow_pulseCount : s.countWindow.pulseCount = s.pulseCount := rfl
@[simp] theorem State.countWindow_prevPulseCount : s.countWindow.prevPulseCount = s.prevPulseCount := rfl
@[simp] theorem State.countWindow_parityErrorCount : s.countWindow.parityErrorCount = s.parityErrorCount := rfl
@[simp] theorem State.countWindow_pulseCountErrorCount : s.countWindow.pulseCountErrorCount = s.pulseCountErrorCount := rfl
@[simp] theorem State.countWindow_slot : s.countWindow.slot = s.slot := rfl
@[simp] theorem State.countWindow_slotArmed : s.countWindow.slotArmed = s.slotArmed := rfl
@[simp] theorem State.countWindow_byteWasSent : s.countWindow.byteWasSent = s.byteWasSent := rfl
@[simp] theorem State.countWindow_conns : s.countWindow.conns = s.conns := rfl
@[simp] theorem State.countWindow_sinkTrace : s.countWindow.sinkTrace = s.sinkTrace := rfl
@[simp] theorem State.countWindow_rsp : s.countWindow.rsp = s.rsp := rfl
@[simp] theorem State.countWindow_arrivals : s.countWindow.arrivals = s.arrivals := rfl
@[simp] theorem State.countWindow_params : s.countWindow.params = s.params := rfl

/-! ### zeroing the counts -/

@[simp] theorem State.zeroCounts_signalIsOk : s.zeroCounts.signalIsOk = s.signalIsOk := rfl
@[simp] theorem State.zeroCounts_idleWindowCount : s.zeroCounts.idleWindowCount = s.idleWindowCount := rfl
@[simp] theorem State.zeroCounts_pulseCount : s.zeroCounts.pulseCount = 0#16 := rfl
@[simp] theorem State.zeroCounts_prevPulseCount : s.zeroCounts.prevPulseCount = 0#16 := rfl
@[simp] theorem State.zeroCounts_parityErrorCount : s.zeroCounts.parityErrorCount = s.parityErrorCount := rfl
@[simp] theorem State.zeroCounts_pulseCountErrorCount : s.zeroCounts.pulseCountErrorCount = s.pulseCountErrorCount := rfl
@[simp] theorem State.zeroCounts_slot : s.zeroCounts.slot = s.slot := rfl
@[simp] theorem State.zeroCounts_slotArmed : s.zeroCounts.slotArmed = s.slotArmed := rfl
@[simp] theorem State.zeroCounts_byteWasSent : s.zeroCounts.byteWasSent = s.byteWasSent := rfl
@[simp] theorem State.zeroCounts_conns : s.zeroCounts.conns = s.conns := rfl
@[simp] theorem State.zeroCounts_sinkTrace : s.zeroCounts.sinkTrace = s.sinkTrace := rfl
@[simp] theorem State.zeroCounts_rsp : s.zeroCounts.rsp = s.rsp := rfl
@[simp] theorem State.zeroCounts_arrivals : s.zeroCounts.arrivals = s.arrivals := rfl
@[simp] theorem State.zeroCounts_params : s.zeroCounts.params = s.params := rfl

/-! ### signal loss -/

@[simp] theorem State.lossWindow_signalIsOk : s.lossWindow.signalIsOk = false := rfl
@[simp] theorem State.lossWindow_idleWindowCount : s.lossWindow.idleWindowCount = s.idleWindowCount := rfl
@[simp] theorem State.lossWindow_pulseCount : s.lossWindow.pulseCount = s.pulseCount := rfl
@[simp] theorem State.lossWindow_prevPulseCount : s.lossWindow.prevPulseCount = s.prevPulseCount := rfl
@[simp] theorem State.lossWindow_parityErrorCount : s.lossWindow.parityErrorCount = s.parityErrorCount - 1#8 := rfl
@[simp] theorem State.lossWindow_pulseCountErrorCount : s.lossWindow.pulseCountErrorCount = s.pulseCountErrorCount := rfl
@[simp] theorem State.lossWindow_slot : s.lossWindow.slot = s.slot := rfl
@[simp] theorem State.lossWindow_slotArmed : s.lossWindow.slotArmed = s.slotArmed := rfl
@[simp] theorem State.lossWindow_byteWasSent : s.lossWindow.byteWasSent = false := rfl
@[simp] theorem State.lossWindow_conns : s.lossWindow.conns = s.conns := rfl
@[simp] theorem State.lossWindow_sinkTrace : s.lossWindow.sinkTrace = s.sinkTrace := rfl
@[simp] theorem State.lossWindow_rsp : s.lossWindow.rsp = s.rsp := rfl
@[simp] theorem State.lossWindow_arrivals : s.lossWindow.arrivals = s.arrivals := rfl
@[simp] theorem State.lossWindow_params : s.lossWindow.params = s.params := rfl

/-! ### putting an item first -/

@[simp] theorem State.withNext_signalIsOk (c : Code) : (s.withNext c).signalIsOk = s.signalIsOk := rfl
@[simp] theorem State.withNext_idleWindowCount (c : Code) : (s.withNext c).idleWindowCount = s.idleWindowCount := rfl
@[simp] theorem State.withNext_pulseCount (c : Code) : (s.withNext c).pulseCount = s.pulseCount := rfl
@[simp] theorem State.withNext_prevPulseCount (c : Code) : (s.withNext c).prevPulseCount = s.prevPulseCount := rfl
@[simp] theorem State.withNext_parityErrorCount (c : Code) : (s.withNext c).parityErrorCount = s.parityErrorCount := rfl
@[simp] theorem State.withNext_pulseCountErrorCount (c : Code) : (s.withNext c).pulseCountErrorCount = s.pulseCountErrorCount := rfl
@[simp] theorem State.withNext_slot (c : Code) : (s.withNext c).slot = s.slot := rfl
@[simp] theorem State.withNext_slotArmed (c : Code) : (s.withNext c).slotArmed = s.slotArmed := rfl
@[simp] theorem State.withNext_byteWasSent (c : Code) : (s.withNext c).byteWasSent = s.byteWasSent := rfl
@[simp] theorem State.withNext_conns (c : Code) : (s.withNext c).conns = s.conns := rfl
@[simp] theorem State.withNext_sinkTrace (c : Code) : (s.withNext c).sinkTrace = s.sinkTrace := rfl
@[simp] theorem State.withNext_rsp (c : Code) : (s.withNext c).rsp = s.rsp := rfl
@[simp] theorem State.withNext_arrivals (c : Code) : (s.withNext c).arrivals = .code c :: s.arrivals := rfl
@[simp] theorem State.withNext_params (c : Code) : (s.withNext c).params = s.params := rfl

end Sys2Proof.Machine
end

