-- ==== Sys2Proof/Laws/Ops.lean ====
section
/-! SUPPORT. One lemma for each shared operation that says once everything it can do; later proofs cite these instead
of unfolding the operations. -/

namespace Sys2Proof.Machine

/-! ### Bits -/

@[simp] theorem rev4_rev4 (v : Nibble) : rev4 (rev4 v) = v := by
  revert v; decide

@[simp] theorem lowNibble_append (h l : Nibble) : lowNibble (h ++ l) = l := by
  revert h l; decide

@[simp] theorem highNibble_append (h l : Nibble) : highNibble (h ++ l) = h := by
  revert h l; decide

@[simp] theorem nibbles_append (x : Byte) : highNibble x ++ lowNibble x = x := by
  revert x; decide

theorem addressInRange_iff (a : Byte) : addressInRange a = true ↔ 1 ≤ a.toNat ∧ a.toNat ≤ 128 := by
  rw [addressInRange, Bool.and_eq_true, decide_eq_true_iff, decide_eq_true_iff]
  exact Iff.rfl

/-! ### The transmit queue -/

@[simp] theorem size_eq (q : List Byte) : size q = q.length := rfl

@[simp] theorem pop_nil : pop [] = (0x00#8, []) := rfl

@[simp] theorem pop_cons (b : Byte) (q : List Byte) : pop (b :: q) = (b, q) := rfl

@[simp] theorem clear_eq : clear = [] := rfl

theorem push_of_room (q : List Byte) (b : Byte) (h : q.length < 16) : push q b = q ++ [b] := by
  simp [push, Config.qcap, h]

theorem push_of_full (q : List Byte) (b : Byte) (h : 16 ≤ q.length) : push q b = q := by
  simp [push, Config.qcap, Nat.not_lt.mpr h]

/-- The number of copies that enter is `min(k+1, QCAP - Size)` (R104). -/
theorem pushCopies_eq (n : Nat) (b : Byte) (q : List Byte) :
    pushCopies n b q = q ++ List.replicate (min n (16 - q.length)) b := by
  induction n generalizing q with
  | zero => simp [pushCopies]
  | succ n ih =>
    by_cases h : q.length < 16
    · have hm : min (n + 1) (16 - q.length) = min n (16 - (q.length + 1)) + 1 := by omega
      rw [pushCopies, push_of_room q b h, ih, hm, List.replicate_succ]
      simp
    · have hz : 16 - q.length = 0 := by omega
      rw [pushCopies, push_of_full q b (by omega), ih, hz]
      simp

@[simp] theorem enqueue_queue (k : Connection) (f : Byte) :
    (enqueue k f).queue = k.queue ++ List.replicate (min (k.fecFactor.toNat + 1) (16 - k.queue.length)) f :=
  pushCopies_eq _ _ _

@[simp] theorem enqueue_address (k : Connection) (f : Byte) : (enqueue k f).address = k.address := rfl
@[simp] theorem enqueue_deviceType (k : Connection) (f : Byte) : (enqueue k f).deviceType = k.deviceType := rfl
@[simp] theorem enqueue_fecFactor (k : Connection) (f : Byte) : (enqueue k f).fecFactor = k.fecFactor := rfl
@[simp] theorem enqueue_state (k : Connection) (f : Byte) : (enqueue k f).state = k.state := rfl
@[simp] theorem enqueue_feedbackRequested (k : Connection) (f : Byte) :
    (enqueue k f).feedbackRequested = k.feedbackRequested := rfl

/-! ### Connections -/

theorem connAt_eq_some (s : State) (c : ConnId) (k : Connection) :
    s.connAt c = some k ↔ ∃ h : c.toNat < s.conns.length, s.conns[c.toNat] = k := by
  simp [State.connAt, List.getElem?_eq_some_iff]

theorem connAt_eq_none (s : State) (c : ConnId) : s.connAt c = none ↔ s.nconn ≤ c.toNat := by
  simp [State.connAt, State.nconn]

@[simp] theorem onConnection_some (s : State) (c : ConnId) (f : Connection → State) (k : Connection)
    (h : s.connAt c = some k) : s.onConnection c f = f k := by
  simp [State.onConnection, h]

@[simp] theorem onConnection_none (s : State) (c : ConnId) (f : Connection → State) (h : s.connAt c = none) :
    s.onConnection c f = s.ignored := by
  simp [State.onConnection, h]

/-- An event addressed to a connection acts on the connection that exists, or is ignored. -/
theorem onConnection_cases (s : State) (c : ConnId) (f : Connection → State) :
    (∃ k, s.connAt c = some k ∧ s.onConnection c f = f k) ∨ (s.connAt c = none ∧ s.onConnection c f = s.ignored) := by
  cases h : s.connAt c with
  | none => exact .inr ⟨rfl, by simp [h]⟩
  | some k => exact .inl ⟨k, rfl, by simp [h]⟩

@[simp] theorem setConn_nconn (s : State) (c : ConnId) (k : Connection) : (s.setConn c k).nconn = s.nconn := by
  simp [State.nconn]

/-! ### The slot -/

theorem holdsClaim_iff (s : State) (k : Connection) :
    s.holdsClaim k = true ↔ ∃ x, s.slot = some x ∧ x.addr = k.address := by
  unfold State.holdsClaim
  split <;> simp_all

/-- Releasing the claim empties the slot where it is held, and does nothing else. -/
theorem releaseClaim_cases (s : State) (k : Connection) :
    (s.holdsClaim k = true ∧ s.releaseClaim k = s.emptySlot) ∨ (s.holdsClaim k = false ∧ s.releaseClaim k = s) := by
  cases h : s.holdsClaim k <;> simp [State.releaseClaim, h]

@[simp] theorem releaseClaim_signalIsOk (s : State) (k : Connection) : (s.releaseClaim k).signalIsOk = s.signalIsOk := by
  unfold State.releaseClaim
  split <;> rfl

@[simp] theorem releaseClaim_idleWindowCount (s : State) (k : Connection) : (s.releaseClaim k).idleWindowCount = s.idleWindowCount := by
  unfold State.releaseClaim
  split <;> rfl

@[simp] theorem releaseClaim_pulseCount (s : State) (k : Connection) : (s.releaseClaim k).pulseCount = s.pulseCount := by
  unfold State.releaseClaim
  split <;> rfl

@[simp] theorem releaseClaim_prevPulseCount (s : State) (k : Connection) : (s.releaseClaim k).prevPulseCount = s.prevPulseCount := by
  unfold State.releaseClaim
  split <;> rfl

@[simp] theorem releaseClaim_parityErrorCount (s : State) (k : Connection) : (s.releaseClaim k).parityErrorCount = s.parityErrorCount := by
  unfold State.releaseClaim
  split <;> rfl

@[simp] theorem releaseClaim_pulseCountErrorCount (s : State) (k : Connection) : (s.releaseClaim k).pulseCountErrorCount = s.pulseCountErrorCount := by
  unfold State.releaseClaim
  split <;> rfl

@[simp] theorem releaseClaim_byteWasSent (s : State) (k : Connection) : (s.releaseClaim k).byteWasSent = s.byteWasSent := by
  unfold State.releaseClaim
  split <;> rfl

@[simp] theorem releaseClaim_conns (s : State) (k : Connection) : (s.releaseClaim k).conns = s.conns := by
  unfold State.releaseClaim
  split <;> rfl

@[simp] theorem releaseClaim_sinkTrace (s : State) (k : Connection) : (s.releaseClaim k).sinkTrace = s.sinkTrace := by
  unfold State.releaseClaim
  split <;> rfl

@[simp] theorem releaseClaim_rsp (s : State) (k : Connection) : (s.releaseClaim k).rsp = s.rsp := by
  unfold State.releaseClaim
  split <;> rfl

@[simp] theorem releaseClaim_arrivals (s : State) (k : Connection) : (s.releaseClaim k).arrivals = s.arrivals := by
  unfold State.releaseClaim
  split <;> rfl

@[simp] theorem releaseClaim_params (s : State) (k : Connection) : (s.releaseClaim k).params = s.params := by
  unfold State.releaseClaim
  split <;> rfl

theorem canHandoff_iff (s : State) (k : Connection) :
    s.canHandoff k = true ↔
      k.queue ≠ [] ∧ s.slot = none ∧ 1 ≤ k.address.toNat ∧ k.address.toNat ≤ 128 := by
  simp [State.canHandoff, addressInRange_iff, List.length_pos_iff, and_assoc]

/-- A handoff either moves the oldest entry into the empty slot and goes to the next state, or changes nothing. -/
theorem handoffTo_cases (s : State) (c : ConnId) (k : Connection) (n : ConnState) :
    (∃ f q, k.queue = f :: q ∧ s.slot = none ∧ 1 ≤ k.address.toNat ∧ k.address.toNat ≤ 128 ∧
        s.handoffTo c k n = (s.fillSlot ⟨k.address, f⟩).setConn c { k with queue := q, state := n }) ∨
      (¬ (k.queue ≠ [] ∧ s.slot = none ∧ 1 ≤ k.address.toNat ∧ k.address.toNat ≤ 128) ∧ s.handoffTo c k n = s) := by
  by_cases h : s.canHandoff k = true
  · obtain ⟨hq, hs, h1, h2⟩ := (canHandoff_iff s k).mp h
    obtain ⟨f, q, hfq⟩ := List.exists_cons_of_ne_nil hq
    exact .inl ⟨f, q, hfq, hs, h1, h2, by simp [State.handoffTo, State.tryHandoff, h, hfq]⟩
  · exact .inr ⟨fun hc => h ((canHandoff_iff s k).mpr hc), by simp [State.handoffTo, State.tryHandoff, h]⟩

/-! ### The policy and the windows -/

theorem triggers_iff (s : State) (p : Policy) :
    s.triggers p = true ↔ p = .always ∨ (p = .ifJustTransmitted ∧ s.byteWasSent = true) := by
  cases p <;> simp [State.triggers]

/-- Applying a policy clears `signalIsOk` where it triggers, and does nothing else. -/
theorem applyPolicy_cases (s : State) (p : Policy) :
    (s.triggers p = true ∧ s.applyPolicy p = s.setSignalIsOk false) ∨ (s.triggers p = false ∧ s.applyPolicy p = s) := by
  cases h : s.triggers p <;> simp [State.applyPolicy, h]

theorem applyPolicy_eq (s : State) (p : Policy) :
    s.applyPolicy p = s.setSignalIsOk (s.signalIsOk && !s.triggers p) := by
  rcases applyPolicy_cases s p with ⟨ht, h⟩ | ⟨ht, h⟩ <;> rw [h, ht]
  · simp
  · simp [State.setSignalIsOk]

theorem armIfHeld_eq (s : State) : s.armIfHeld = { s with slotArmed := s.slotArmed || s.slot.isSome } := by
  cases hs : s.slot <;> simp [State.armIfHeld, hs]
  rw [← hs]

/-- Window 3 with a good total, as one update (R144). -/
theorem cycleOk_eq (s : State) :
    s.cycleOk = { s with signalIsOk := true, slotArmed := s.slotArmed || s.slot.isSome } := by
  rw [State.cycleOk, armIfHeld_eq]; rfl

/-- Window 3 with a wrong total, as one update (R145). -/
theorem pulseCountError_eq (s : State) :
    s.pulseCountError =
      { s with
        pulseCountErrorCount := s.pulseCountErrorCount + 1#8
        signalIsOk := s.signalIsOk && !s.triggers s.params.policyPulseCount } := by
  cases ho : s.signalIsOk
  · simp only [State.pulseCountError, ho, Bool.false_and]
    rfl
  · simp only [State.pulseCountError, ho, applyPolicy_eq, if_true]
    rfl

/-- Window 5, as one update (R148). -/
theorem parityWindow_eq (s : State) :
    s.parityWindow =
      { s with
        parityErrorCount := s.parityErrorCount + 1#8
        signalIsOk := s.signalIsOk && !s.triggers s.params.policyParity } := by
  rw [State.parityWindow, applyPolicy_eq]; rfl

theorem nextWindow_le (s : State) : s.nextWindow ≤ 8 := by
  simp [State.nextWindow, Config.wSat]

@[simp] theorem countWindow_toNat (s : State) : s.countWindow.idleWindowCount.toNat = s.nextWindow := by
  have := nextWindow_le s
  simp only [State.countWindow_idleWindowCount, BitVec.toNat_ofNat]
  omega

theorem pulsesSeen_iff (s : State) : s.pulsesSeen = true ↔ s.pulseCount ≠ s.prevPulseCount := by
  simp [State.pulsesSeen]

/-- What a tick can do: the changed branch, or the action of the window it enters. -/
theorem tick_cases (s : State) :
    (s.pulseCount ≠ s.prevPulseCount ∧ s.tick = s.recordPulses) ∨
      (s.pulseCount = s.prevPulseCount ∧
        ((s.nextWindow = 3 ∧ s.pulseCount = 130#16 ∧ s.tick = s.countWindow.cycleOk.zeroCounts) ∨
          (s.nextWindow = 3 ∧ s.pulseCount ≠ 130#16 ∧ s.tick = s.countWindow.pulseCountError.zeroCounts) ∨
          (s.nextWindow = 5 ∧ s.tick = s.countWindow.parityWindow) ∨
          (s.nextWindow = 7 ∧ s.tick = s.countWindow.lossWindow) ∨
          (s.nextWindow ≠ 3 ∧ s.nextWindow ≠ 5 ∧ s.nextWindow ≠ 7 ∧ s.tick = s.countWindow))) := by
  by_cases hp : s.pulseCount = s.prevPulseCount
  · refine .inr ⟨hp, ?_⟩
    have hs : s.pulsesSeen = false := by simpa [State.pulsesSeen] using hp
    by_cases h3 : s.nextWindow = 3
    · by_cases hc : s.pulseCount = 130#16
      · exact .inl ⟨h3, hc, by
          simp [State.tick, hs, State.windowAction, h3, Config.wBoundary, State.boundaryWindow, hc, Config.cyclePulses]⟩
      · exact .inr (.inl ⟨h3, hc, by
          simp [State.tick, hs, State.windowAction, h3, Config.wBoundary, State.boundaryWindow, hc, Config.cyclePulses]⟩)
    · by_cases h5 : s.nextWindow = 5
      · exact .inr (.inr (.inl ⟨h5, by
          simp [State.tick, hs, State.windowAction, h5, Config.wBoundary, Config.wParity]⟩))
      · by_cases h7 : s.nextWindow = 7
        · exact .inr (.inr (.inr (.inl ⟨h7, by
            simp [State.tick, hs, State.windowAction, h7, Config.wBoundary, Config.wParity, Config.wLoss]⟩)))
        · exact .inr (.inr (.inr (.inr ⟨h3, h5, h7, by
            simp [State.tick, hs, State.windowAction, h3, h5, h7, Config.wBoundary, Config.wParity, Config.wLoss]⟩)))
  · exact .inl ⟨hp, by simp [State.tick, State.pulsesSeen, hp]⟩

/-! ### The pulse -/

/-- What a pulse can do: count and send the slot's byte, or only count. -/
theorem pulse_cases (s : State) :
    (∃ x, s.slot = some x ∧ s.slotArmed = true ∧ s.pulseCount + 1#16 = x.addr.zeroExtend 16 ∧
        s.pulse = s.countPulse.sendSlot x) ∨
      ((∀ x, s.slot = some x → ¬ (s.slotArmed = true ∧ s.pulseCount + 1#16 = x.addr.zeroExtend 16)) ∧
        s.pulse = s.countPulse) := by
  cases hx : s.slot with
  | none => exact .inr ⟨by simp, by simp [State.pulse, hx]⟩
  | some x =>
    by_cases h : s.slotArmed = true ∧ s.pulseCount + 1#16 = x.addr.zeroExtend 16
    · have hm : s.countPulse.slotMatches x = true := by simpa [State.slotMatches] using h
      exact .inl ⟨x, rfl, h.1, h.2, by simp [State.pulse, hx, hm]⟩
    · have hm : s.countPulse.slotMatches x = false := by
        rw [Bool.eq_false_iff]
        intro hc
        exact h (by simpa [State.slotMatches] using hc)
      refine .inr ⟨fun y hy => ?_, by simp [State.pulse, hx, hm]⟩
      cases hy
      exact h

/-! ### The poll -/

/-- What a poll of an existing connection can do, by `signalIsOk` and the state it finds. -/
theorem poll_cases (s : State) (c : ConnId) (k : Connection) :
    (s.signalIsOk = false ∧ s.poll c k = s.enterCascade c k) ∨
      (s.signalIsOk = true ∧
        ((k.state = .unsynchronized ∧ s.poll c k = s.requestFeedback c k) ∨
          (k.state = .feedbackNeeded ∧ k.feedbackRequested = true ∧ s.poll c k = s) ∨
          (k.state = .feedbackNeeded ∧ k.feedbackRequested = false ∧
            s.poll c k = s.setConn c { k with state := .sendingNibble1 }) ∨
          (k.state = .sendingNibble1 ∧ s.poll c k = s.handoffTo c k .sendingNibble2) ∨
          ((k.state = .sendingNibble2 ∨ k.state = .connected) ∧ s.poll c k = s.handoffTo c k .connected))) := by
  cases ho : s.signalIsOk
  · simp [State.poll, ho]
  · refine .inr ⟨rfl, ?_⟩
    cases hk : k.state <;> cases hf : k.feedbackRequested <;> simp [State.poll, ho, State.pollSynchronised, hk, hf]

/-! ### The step -/

/-- What a step can do: wait, reset, run the decoded row, or ignore a word. -/
theorem step_cases (s : State) :
    (s.arrivals = [] ∧ step s = .next s) ∨
      (∃ rest, s.arrivals = .rst :: rest ∧ step s = .next ({ s with arrivals := rest } : State).resetBlock) ∨
      (∃ c rest i, s.arrivals = .code c :: rest ∧ decode c = .ok i ∧ step s = exec i { s with arrivals := rest }) ∨
      (∃ c rest e, s.arrivals = .code c :: rest ∧ decode c = .error e ∧
        step s = .next ({ s with arrivals := rest } : State).ignored) := by
  cases h : s.arrivals with
  | nil => exact .inl ⟨rfl, by simp [step, State.take, h]⟩
  | cons x rest =>
    cases x with
    | rst => exact .inr (.inl ⟨rest, rfl, by simp [step, State.take, h, deliver]⟩)
    | code c =>
      cases hd : decode c with
      | ok i => exact .inr (.inr (.inl ⟨c, rest, i, rfl, hd, by simp [step, State.take, h, deliver, runCode, hd]⟩))
      | error e => exact .inr (.inr (.inr ⟨c, rest, e, rfl, hd, by simp [step, State.take, h, deliver, runCode, hd]⟩))

end Sys2Proof.Machine
end

