-- ==== Sys2Proof/Laws/Exec.lean ====
section
/-! SUPPORT. What each instruction answers: the next state of `exec`, one lemma for each constructor. -/

namespace Sys2Proof.Machine

variable (s : State)

@[simp] theorem exec_pulse : exec .pulse s = .next (s.pulse.respond 0x00#8) := rfl

@[simp] theorem exec_tick : exec .tick s = .next (s.tick.respond 0x00#8) := rfl

@[simp] theorem exec_poll (c : ConnId) :
    exec (.poll c) s = .next (s.onConnection c fun k => (s.poll c k).respond 0x00#8) := rfl

@[simp] theorem exec_cfg (c : ConnId) (a : Byte) (d : DeviceType) (f : Byte) :
    exec (.cfg c a d f) s = .next (s.onConnection c fun k => (s.configure c k a d f).respond 0x00#8) := rfl

@[simp] theorem exec_req4 (c : ConnId) (p : Position) (v : Nibble) :
    exec (.req4 c p v) s = .next (s.onConnection c fun k => (s.requestNibble c k p v).respond 0x00#8) := rfl

@[simp] theorem exec_req8 (c : ConnId) (x : Byte) :
    exec (.req8 c x) s = .next (s.onConnection c fun k => (s.requestByte c k x).respond 0x00#8) := rfl

@[simp] theorem exec_rdfb (c : ConnId) :
    exec (.rdfb c) s = .next (s.onConnection c fun k => s.respond (flagByte k.feedbackRequested)) := rfl

@[simp] theorem exec_rdok : exec .rdok s = .next (s.respond (flagByte s.signalIsOk)) := rfl

@[simp] theorem exec_rdpar : exec .rdpar s = .next (s.respond s.parityErrorCount) := rfl

@[simp] theorem exec_rdpce : exec .rdpce s = .next (s.respond s.pulseCountErrorCount) := rfl

@[simp] theorem exec_frameSwLo (p : Bool) (d : Nibble) : exec (.frameSwLo p d) s = .next s.ignored := rfl

@[simp] theorem exec_frameSwHi (p : Bool) (d : Nibble) : exec (.frameSwHi p d) s = .next s.ignored := rfl

@[simp] theorem exec_frameFbLo (p : Bool) (d : Nibble) : exec (.frameFbLo p d) s = .next s.ignored := rfl

@[simp] theorem exec_frameFbHi (p : Bool) (d : Nibble) : exec (.frameFbHi p d) s = .next s.ignored := rfl

/-- What an event other than PULSE and TICK can do, as a shape: answer; write the record of the connection it is
addressed to; do so after releasing that connection's claim; or do so after filling the empty slot. -/
theorem host_event_shape {i : Instr} {s t : State} (h : exec i s = .next t) (hp : i ≠ .pulse) (ht : i ≠ .tick) :
    (∃ v, t = s.respond v) ∨
      ∃ c k k' v, i.conn = some c ∧ s.connAt c = some k ∧
        (t = (s.setConn c k').respond v ∨ t = ((s.releaseClaim k).setConn c k').respond v ∨
          ∃ x, s.slot = none ∧ t = ((s.fillSlot x).setConn c k').respond v) := by
  have on : ∀ (c : ConnId) (f : Connection → State), Host.Outcome.next (s.onConnection c f) =
      (Host.Outcome.next t : Host.Outcome State Fault Refusal) →
      (∃ v, t = s.respond v) ∨ ∃ k, s.connAt c = some k ∧ t = f k := by
    intro c f hf
    cases hf
    rcases onConnection_cases s c f with ⟨k, hk, h'⟩ | ⟨-, h'⟩
    · exact .inr ⟨k, hk, h'⟩
    · exact .inl ⟨0x00#8, h'⟩
  cases i with
  | pulse => exact absurd rfl hp
  | tick => exact absurd rfl ht
  | poll c =>
    rcases on c _ h with h | ⟨k, hk, rfl⟩
    · exact .inl h
    · rcases poll_cases s c k with ⟨-, h'⟩ | ⟨-, ⟨-, h'⟩ | ⟨-, -, h'⟩ | ⟨-, -, h'⟩ | ⟨-, h'⟩ | ⟨-, h'⟩⟩ <;> rw [h']
      · exact .inr ⟨c, k, _, _, rfl, hk, .inr (.inl rfl)⟩
      · exact .inr ⟨c, k, _, _, rfl, hk, .inl rfl⟩
      · exact .inl ⟨_, rfl⟩
      · exact .inr ⟨c, k, _, _, rfl, hk, .inl rfl⟩
      · rcases handoffTo_cases s c k .sendingNibble2 with ⟨f, q, -, hs, -, -, h'⟩ | ⟨-, h'⟩ <;> rw [h']
        · exact .inr ⟨c, k, _, _, rfl, hk, .inr (.inr ⟨_, hs, rfl⟩)⟩
        · exact .inl ⟨_, rfl⟩
      · rcases handoffTo_cases s c k .connected with ⟨f, q, -, hs, -, -, h'⟩ | ⟨-, h'⟩ <;> rw [h']
        · exact .inr ⟨c, k, _, _, rfl, hk, .inr (.inr ⟨_, hs, rfl⟩)⟩
        · exact .inl ⟨_, rfl⟩
  | cfg c a d f =>
    rcases on c _ h with h | ⟨k, hk, rfl⟩
    · exact .inl h
    · exact .inr ⟨c, k, _, _, rfl, hk, .inr (.inl rfl)⟩
  | req4 c p v =>
    rcases on c _ h with h | ⟨k, hk, rfl⟩
    · exact .inl h
    · exact .inr ⟨c, k, _, _, rfl, hk, .inl rfl⟩
  | req8 c x =>
    rcases on c _ h with h | ⟨k, hk, rfl⟩
    · exact .inl h
    · exact .inr ⟨c, k, _, _, rfl, hk, .inl rfl⟩
  | rdfb c =>
    rcases on c _ h with h | ⟨k, -, rfl⟩
    · exact .inl h
    · exact .inl ⟨_, rfl⟩
  | rdok => cases h; exact .inl ⟨_, rfl⟩
  | rdpar => cases h; exact .inl ⟨_, rfl⟩
  | rdpce => cases h; exact .inl ⟨_, rfl⟩
  | frameSwLo p d => cases h; exact .inl ⟨_, rfl⟩
  | frameSwHi p d => cases h; exact .inl ⟨_, rfl⟩
  | frameFbLo p d => cases h; exact .inl ⟨_, rfl⟩
  | frameFbHi p d => cases h; exact .inl ⟨_, rfl⟩

@[simp] theorem pulses_zero : pulses 0 = [] := rfl

theorem pulses_succ (n : Nat) : pulses (n + 1) = .pulse :: pulses n := rfl

theorem pulses_succ_last (n : Nat) : pulses (n + 1) = pulses n ++ [.pulse] := List.replicate_succ'

/-- A sequence of events may be cut anywhere: the second part runs from where the first one ends (R67). -/
theorem execAll_append (l m : List Instr) (s t : State) (h : execAll l s = .next t) :
    execAll (l ++ m) s = execAll m t := by
  induction l generalizing s with
  | nil => cases h; rfl
  | cons i l ih =>
    simp only [execAll, List.cons_append] at h ⊢
    cases hi : exec i s with
    | next u => rw [hi] at h; exact ih u h
    | fault r => rw [hi] at h; cases h
    | refused r => rw [hi] at h; cases h

end Sys2Proof.Machine
end

