-- ==== Sys2Proof/Laws/PerInstr.lean ====
section
/-! SUPPORT. The statements made per instruction. `FixedBits`: the code the encoder writes for a constructor carries
the fixed field of its row of `spec/opcode_table.json` (bits 31:28 of an `evt32` row, bits 6:4 of a `frame8` row). -/

namespace Sys2Proof.Laws

/-- The value of the row's fixed field, as the opcode table lists it. -/
def FixedBits.value : Instr → Nat
  | .pulse => 1
  | .tick => 2
  | .poll _ => 3
  | .cfg _ _ _ _ => 4
  | .req4 _ _ _ => 5
  | .req8 _ _ => 6
  | .rdfb _ => 7
  | .rdok => 8
  | .rdpar => 9
  | .rdpce => 10
  | .frameSwLo _ _ => 2
  | .frameSwHi _ _ => 3
  | .frameFbLo _ _ => 4
  | .frameFbHi _ _ => 5

/-- The fixed field of a code: bits 31:28 of an event word, bits 6:4 of a FrameByte. -/
def FixedBits.field : Code → Nat
  | .evt32 w => (opField w).toNat
  | .frame8 b => (b.extractLsb' 4 3).toNat

/-- The encoder writes the row's fixed field. -/
def FixedBits.Statement (i : Instr) : Prop := FixedBits.field (encode i) = FixedBits.value i

theorem FixedBits.pulse : FixedBits.Statement .pulse := rfl

theorem FixedBits.tick : FixedBits.Statement .tick := rfl

theorem FixedBits.poll (c : ConnId) : FixedBits.Statement (.poll c) := by
  simp [Statement, field, value, encode]

theorem FixedBits.cfg (c : ConnId) (address : Byte) (deviceType : DeviceType) (fecFactor : Byte) :
    FixedBits.Statement (.cfg c address deviceType fecFactor) := by
  simp [Statement, field, value, encode]

theorem FixedBits.req4 (c : ConnId) (position : Position) (bits : Nibble) :
    FixedBits.Statement (.req4 c position bits) := by
  simp [Statement, field, value, encode]

theorem FixedBits.req8 (c : ConnId) (byte : Byte) : FixedBits.Statement (.req8 c byte) := by
  simp [Statement, field, value, encode]

theorem FixedBits.rdfb (c : ConnId) : FixedBits.Statement (.rdfb c) := by
  simp [Statement, field, value, encode]

theorem FixedBits.rdok : FixedBits.Statement .rdok := rfl

theorem FixedBits.rdpar : FixedBits.Statement .rdpar := rfl

theorem FixedBits.rdpce : FixedBits.Statement .rdpce := rfl

theorem FixedBits.frameSwLo (p : Bool) (d : Nibble) : FixedBits.Statement (.frameSwLo p d) := by
  simp [Statement, field, value, encode]

theorem FixedBits.frameSwHi (p : Bool) (d : Nibble) : FixedBits.Statement (.frameSwHi p d) := by
  simp [Statement, field, value, encode]

theorem FixedBits.frameFbLo (p : Bool) (d : Nibble) : FixedBits.Statement (.frameFbLo p d) := by
  simp [Statement, field, value, encode]

theorem FixedBits.frameFbHi (p : Bool) (d : Nibble) : FixedBits.Statement (.frameFbHi p d) := by
  simp [Statement, field, value, encode]

end Sys2Proof.Laws
end

