-- ==== Sys2Proof/Tests/Slice0.lean ====
section
/-! SUPPORT. The model's own tests. Expected values are the spec's: the vectors of `95_test_vectors.md` (named at each
theorem) and the encodings of `30_encoding.md`. The theorems `witness_<Name>…` show, for the statement
`Obligations.<Name>`, a concrete state and operands that meet its hypotheses, one for each clause. -/

open Sys2Proof Sys2Proof.Machine

namespace Sys2Proof.Tests

/-! ### Small states -/

/-- The parameters of the vectors (`95_test_vectors.md`, before part 1). -/
def par : Params := ⟨.always, .ifJustTransmitted, .immediate, 0b01#2, 0b10#2, 0#1, 1#1, false⟩

/-- A `Feedback` connection, each frame queued once. -/
def fb (address : Byte) (st : ConnState) (requested : Bool) (queue : List Byte) : Connection :=
  ⟨address, .feedback, 0#8, st, requested, queue⟩

/-- The slot of the vectors: `CA` for address 5. -/
def slotCA : Slot := ⟨5#8, 0xCA#8⟩

/-- The fresh block of the vectors with the given connections. -/
def block (ok : Bool) (conns : List Connection) : State :=
  { signalIsOk := ok, idleWindowCount := 0#8, pulseCount := 0#16, prevPulseCount := 0#16, parityErrorCount := 0#8,
    pulseCountErrorCount := 0#8, slot := none, slotArmed := false, byteWasSent := false, conns := conns,
    sinkTrace := [], rsp := 0x00#8, arrivals := [], params := par }

/-- The block just before a TICK that sees no pulse: total `n`, window `w`. -/
def silent (ok : Bool) (n : PulseNumber) (w : Byte) : State :=
  { block ok [] with pulseCount := n, prevPulseCount := n, idleWindowCount := w }

/-- The block with the byte `CA` for address 5 armed in the slot, `n` pulses counted. -/
def armed (n : PulseNumber) : State :=
  { block true [fb 5#8 .sendingNibble2 false [0x55#8]] with pulseCount := n, slot := some slotCA, slotArmed := true }

/-- Whether an outcome is a next state with a property. -/
def gives (o : Host.Outcome State Fault Refusal) (p : State → Bool) : Bool :=
  match o with
  | .next t => p t
  | .fault _ => false
  | .refused _ => false

/-! ### Well-formedness: each check refuses an ill-formed term (R82) -/

theorem test_wellFormed_refuses_frameSwLo : (Instr.frameSwLo false 0x0#4).wellFormed = false := by decide
theorem test_wellFormed_refuses_frameSwHi : (Instr.frameSwHi true 0x0#4).wellFormed = false := by decide
theorem test_wellFormed_refuses_frameFbLo : (Instr.frameFbLo false 0xA#4).wellFormed = false := by decide
theorem test_wellFormed_refuses_frameFbHi : (Instr.frameFbHi true 0x5#4).wellFormed = false := by decide

/-! ### Decoding of words written out from the encoding of the spec (R81, R87 to R89) -/

theorem test_decode_pulse : decodeTableWord 32 0b0001_0000_00000000_00000000_00000000 = some .pulse := by decide
theorem test_decode_tick : decodeTableWord 32 0b0010_0000_00000000_00000000_00000000 = some .tick := by decide
theorem test_decode_poll : decodeTableWord 32 0b0011_1110_00000000_00000000_00000000 = some (.poll 14#4) := by decide
theorem test_decode_cfg :
    decodeTableWord 32 0b0100_0110_10000000_00000001_00000111 = some (.cfg 6#4 128#8 .feedback 7#8) := by decide
theorem test_decode_req4 :
    decodeTableWord 32 0b0101_1001_00000000_00000001_00001101 = some (.req4 9#4 .high 13#4) := by decide
theorem test_decode_req8 : decodeTableWord 32 0b0110_0011_00000000_00000000_10110010 = some (.req8 3#4 0xB2#8) := by decide
theorem test_decode_rdfb : decodeTableWord 32 0b0111_0101_00000000_00000000_00000000 = some (.rdfb 5#4) := by decide
theorem test_decode_rdok : decodeTableWord 32 0b1000_0000_00000000_00000000_00000000 = some .rdok := by decide
theorem test_decode_rdpar : decodeTableWord 32 0b1001_0000_00000000_00000000_00000000 = some .rdpar := by decide
theorem test_decode_rdpce : decodeTableWord 32 0b1010_0000_00000000_00000000_00000000 = some .rdpce := by decide
theorem test_decode_frameSwLo : decodeTableWord 8 0b0_01_0_1000 = some (.frameSwLo false 0b1000#4) := by decide
theorem test_decode_frameSwHi : decodeTableWord 8 0b1_01_1_1000 = some (.frameSwHi true 0b1000#4) := by decide
theorem test_decode_frameFbLo : decodeTableWord 8 0b1_10_0_1010 = some (.frameFbLo true 0b1010#4) := by decide
theorem test_decode_frameFbHi : decodeTableWord 8 0b0_10_1_0101 = some (.frameFbHi false 0b0101#4) := by decide
/-- `op` 11 and the type bits 11 are reserved (R86, R88). -/
theorem test_decode_reserved : decodeTableWord 32 0xB0000000 = none ∧ decodeTableWord 8 0b0_11_0_0000 = none := by decide

/-- The line of R92's example: `CFG 0, 5, 1, 0` is `0x40050100`. -/
theorem test_line :
    (decodeTableWord 32 0x40050100).bind Instr.line = some "CFG 0, 5, 1, 0" := by decide

/-! ### The frame encoder: V-ENC-1, V-ENC-2, V-ENC-4 -/

theorem test_encNib :
    encNib par .low 0x0#4 .switch = 0xA0#8 ∧ encNib par .high 0x1#4 .switch = 0xB8#8 ∧
      encNib par .low 0x5#4 .feedback = 0xCA#8 ∧ encNib par .high 0xA#4 .feedback = 0x55#8 := by decide
theorem test_encByte_and_decode :
    encByte par 0x80#8 .switch = (0xA0#8, 0xB1#8) ∧ encByte par 0xA5#8 .feedback = (0xCA#8, 0x55#8) ∧
      decodePayload 0xCA#8 0x55#8 = 0xA5#8 := by decide

/-! ### The transmit queue: V-Q-1, V-Q-2 -/

theorem test_push_full : push (List.replicate 16 0x28#8) 0xB1#8 = List.replicate 16 0x28#8 := by decide
theorem test_pop : pop [0xCA#8, 0x55#8] = (0xCA#8, [0x55#8]) ∧ pop [] = (0x00#8, []) := by decide

/-! ### One step of each event -/

/-- V-PULSE-2: a match sends, with the new count. -/
theorem test_pulse_match :
    gives (exec .pulse (armed 4#16)) (fun t => t.pulseCount == 5#16 && t.sinkTrace == [⟨5#16, 0xCA#8⟩] &&
      t.byteWasSent && t.slot == none && !t.slotArmed) = true := by decide
/-- V-PULSE-5: the comparison is on all 16 bits. -/
theorem test_pulse_all_bits :
    gives (exec .pulse { armed 256#16 with slot := some ⟨1#8, 0xCA#8⟩ })
      (fun t => t.pulseCount == 257#16 && t.sinkTrace == [] && t.slot == some ⟨1#8, 0xCA#8⟩) = true := by decide
/-- R145's example: a wrong total under `Always`. -/
theorem test_tick_wrong_total :
    gives (exec .tick (silent true 129#16 2#8)) (fun t => t.pulseCountErrorCount == 1#8 && !t.signalIsOk &&
      t.pulseCount == 0#16 && t.prevPulseCount == 0#16 && t.idleWindowCount == 3#8) = true := by decide
/-- QUIRK-PARITY-RETRACT and V-SYNC-6: window 7 takes one parity error back, 0 - 1 = 255. -/
theorem test_tick_retracts :
    gives (exec .tick (silent true 0#16 6#8)) (fun t => t.parityErrorCount == 0xFF#8 && !t.signalIsOk &&
      t.idleWindowCount == 7#8) = true := by decide
/-- V-CONN-4: `SendingNibble1`, queue `CA 55`, slot empty. -/
theorem test_poll_handoff :
    gives (exec (.poll 0#4) (block true [fb 5#8 .sendingNibble1 false [0xCA#8, 0x55#8]]))
      (fun t => t.slot == some slotCA && t.slotArmed && t.conns == [fb 5#8 .sendingNibble2 false [0x55#8]]) = true := by
  decide
/-- V-CONN-6: the desynchronised `POLL 1` leaves the byte of address 5 in the slot. -/
theorem test_poll_foreign_claim :
    gives (exec (.poll 1#4) { armed 0#16 with
        signalIsOk := false, conns := [fb 5#8 .sendingNibble2 false [0x55#8], fb 7#8 .connected false [0x5C#8]] })
      (fun t => t.slot == some slotCA && t.conns ==
        [fb 5#8 .sendingNibble2 false [0x55#8], fb 7#8 .unsynchronized false []]) = true := by decide
/-- V-CONN-2: CFG releases the claim held under the old address. -/
theorem test_cfg_releases :
    gives (exec (.cfg 0#4 9#8 .switch 2#8) (armed 0#16)) (fun t => t.slot == none && !t.slotArmed &&
      t.conns == [⟨9#8, .switch, 2#8, .unsynchronized, false, []⟩]) = true := by decide
/-- V-CONN-3: `REQ4 0, 1, 0x3` pushes `5C`, and `feedbackRequested` stays. -/
theorem test_req4 :
    gives (exec (.req4 0#4 .high 0x3#4) (block true [fb 5#8 .feedbackNeeded true []]))
      (fun t => t.conns == [fb 5#8 .feedbackNeeded true [0x5C#8]]) = true := by decide
/-- V-ENC-5, `fecFactor` 1: `CA CA 55 55`, and `feedbackRequested` cleared. -/
theorem test_req8_repeats :
    gives (exec (.req8 0#4 0xA5#8) (block true [⟨5#8, .feedback, 1#8, .feedbackNeeded, true, []⟩]))
      (fun t => t.conns ==
        [⟨5#8, .feedback, 1#8, .feedbackNeeded, false, [0xCA#8, 0xCA#8, 0x55#8, 0x55#8]⟩]) = true := by decide
/-- R122: with the queue full both frames are dropped and `feedbackRequested` is still cleared. -/
theorem test_req8_full :
    gives (exec (.req8 0#4 0xA5#8) (block true [fb 5#8 .feedbackNeeded true (List.replicate 16 0xC0#8)]))
      (fun t => t.conns == [fb 5#8 .feedbackNeeded false (List.replicate 16 0xC0#8)]) = true := by decide
/-- V-CONN-7. -/
theorem test_rdfb :
    gives (exec (.rdfb 0#4) (block true [fb 5#8 .feedbackNeeded true []])) (fun t => t.rsp == 0x01#8) = true := by decide
/-- V-RD-1. -/
theorem test_reads :
    gives (exec .rdok (block true [])) (fun t => t.rsp == 0x01#8) = true ∧
    gives (exec .rdpar { block true [] with parityErrorCount := 0x12#8 }) (fun t => t.rsp == 0x12#8) = true ∧
    gives (exec .rdpce { block true [] with pulseCountErrorCount := 0xFE#8 }) (fun t => t.rsp == 0xFE#8) = true := by
  decide
/-- V-RD-2: with `NCONN` = 1, `POLL 1` and a reserved `op` are ignored. -/
theorem test_ignored :
    gives (step ((block false [fb 5#8 .connected false [0x5C#8]]).withFetchWord 32 0x31000000))
      (fun t => t == block false [fb 5#8 .connected false [0x5C#8]]) = true ∧
    gives (step ((block false [fb 5#8 .connected false [0x5C#8]]).withFetchWord 32 0xF1234567))
      (fun t => t == block false [fb 5#8 .connected false [0x5C#8]]) = true := by decide
/-- R86: a FRAME row as an input changes nothing. -/
theorem test_frame_input :
    gives (step ((armed 4#16).withFetchWord 8 0xCA)) (fun t => t == armed 4#16) = true := by decide
/-- V-CONN-1 as the first event after reset, for every value of the OPEN parameters. -/
theorem test_first_event_after_reset :
    gives (step (State.reset.withFetchWord 32 0x40050100))
      (fun t => t.connAt 0#4 == some (fb 5#8 .unsynchronized false [])) = true := by rfl
/-- V-PULSE-1 and the first `TICK` of V-SYNC-4, each as the first event after reset. -/
theorem test_first_strobe_after_reset :
    gives (step (State.reset.withFetchWord 32 0x1FFFFFFF)) (fun t => t.pulseCount == 1#16 && t.sinkTrace == []) = true ∧
    gives (step (State.reset.withFetchWord 32 0x20000000)) (fun t => t.idleWindowCount == 1#8 && !t.signalIsOk) = true :=
  ⟨rfl, rfl⟩

/-! ### Witnesses: states and operands that meet the hypotheses of each statement -/

/-- A connection with address 5 and a queue, in `Connected`. -/
def connected : Connection := fb 5#8 .connected false [0xCA#8]

/-- Two connections, addresses 5 and 7. -/
def two : State := block true [connected, fb 7#8 .unsynchronized false []]

/-- The state in which `step` next takes the word `w`. -/
def next (s : State) (w : EventWord) : State := { s with arrivals := [.code (.evt32 w)] }

theorem witness_EncodeAfterDecodeKeepsUsedBits :
    decodeEvent 0x50AB03F3#32 = .ok (.req4 0#4 .high 3#4) ∧ decodeFrame 0xCA#8 = .ok (.frameFbLo true 0xA#4) := ⟨rfl, rfl⟩
theorem witness_StepRunsTheDecodedInstruction :
    (next two 0x600000A5#32).arrivals = .code (.evt32 0x600000A5#32) :: [] ∧
      decode (.evt32 0x600000A5#32) = .ok (.req8 0#4 0xA5#8) := ⟨rfl, rfl⟩
theorem witness_WordsNamingNoEventAreIgnored_op :
    (next two 0x0FFFFFFF#32).arrivals = .code (.evt32 0x0FFFFFFF#32) :: [] ∧ (opField 0x0FFFFFFF#32).toNat = 0 ∧
      (next two 0xB0000000#32).arrivals = .code (.evt32 0xB0000000#32) :: [] ∧ (opField 0xB0000000#32).toNat = 11 ∧
      (next two 0xFFFFFFFF#32).arrivals = .code (.evt32 0xFFFFFFFF#32) :: [] ∧ (opField 0xFFFFFFFF#32).toNat = 15 :=
  ⟨rfl, rfl, rfl, rfl, rfl, rfl⟩
theorem witness_WordsNamingNoEventAreIgnored_conn :
    (next two 0x32000000#32).arrivals = .code (.evt32 0x32000000#32) :: [] ∧ (opField 0x32000000#32).toNat = 3 ∧
      (connField 0x32000000#32).toNat = 2 ∧ (next two 0x7F000000#32).arrivals = .code (.evt32 0x7F000000#32) :: [] ∧
      (opField 0x7F000000#32).toNat = 7 ∧ (connField 0x7F000000#32).toNat = 15 ∧ two.nconn = 2 :=
  ⟨rfl, rfl, rfl, rfl, rfl, rfl, rfl⟩
theorem witness_AbsentConnectionIsIgnored :
    (Instr.poll 2#4).conn = some 2#4 ∧ two.nconn ≤ (2#4 : ConnId).toNat ∧
      (Instr.cfg 15#4 5#8 .feedback 0#8).conn = some 15#4 ∧ two.nconn ≤ (15#4 : ConnId).toNat := by decide
theorem witness_StepWaitsWhenNothingArrived : State.reset.arrivals = [] := rfl
theorem witness_RstInputResetsEverything : { two with arrivals := [.rst] }.arrivals = .rst :: [] := rfl
theorem witness_StrobesOfOneClockAreTakenInOrder :
    two.arrivals = [] ∧ decodeEvent 0x30000000#32 = .ok (.poll 0#4) := ⟨rfl, rfl⟩
theorem witness_EncodeNibbleIsInjective :
    par.ttSwitch ≠ par.ttFeedback ∧ par.nselLow ≠ par.nselHigh ∧
      encNib par .low 0x5#4 .feedback = encNib par .low 0x5#4 .feedback := by decide
theorem witness_PushAndPopAtTheEnds_room : (List.replicate 15 0x28#8).length ≤ 15 := by decide
theorem witness_PushAndPopAtTheEnds_full : 16 ≤ (List.replicate 16 0x28#8).length := by decide

theorem witness_PulseResult_match :
    (armed 4#16).slot = some slotCA ∧ (armed 4#16).slotArmed = true ∧
      (armed 4#16).pulseCount + 1#16 = slotCA.addr.zeroExtend 16 := by decide
theorem witness_PulseResult_other :
    two.slot = none ∧ { armed 4#16 with slotArmed := false }.slotArmed = false ∧
      (armed 5#16).slot = some slotCA ∧ (armed 5#16).pulseCount + 1#16 ≠ slotCA.addr.zeroExtend 16 := by decide
theorem witness_PulseDoesNotReadSignalIsOk : ∃ t, exec .pulse (armed 4#16) = .next t ∧ t.sinkTrace ≠ [] :=
  ⟨_, rfl, by decide⟩
theorem witness_OnlyAMatchingPulseSends : ∃ t, exec .pulse (armed 4#16) = .next t ∧ t.sinkTrace = [⟨5#16, 0xCA#8⟩] :=
  ⟨_, rfl, by decide⟩
theorem witness_ByteWasSentHasTheseWriters_set :
    ∃ t, exec .pulse (armed 4#16) = .next t ∧ (armed 4#16).byteWasSent = false ∧ t.byteWasSent = true :=
  ⟨_, rfl, by decide⟩
theorem witness_ByteWasSentHasTheseWriters_cleared :
    (∃ t, exec .pulse { two with byteWasSent := true } = .next t ∧ t.byteWasSent = false) ∧
    (∃ t, exec .tick { silent true 0#16 6#8 with byteWasSent := true } = .next t ∧ t.byteWasSent = false) :=
  ⟨⟨_, rfl, by decide⟩, ⟨_, rfl, by decide⟩⟩

theorem witness_TickThatSawPulses : (armed 4#16).pulseCount ≠ (armed 4#16).prevPulseCount := by decide
theorem witness_TickInAQuietWindow :
    ∀ w ∈ [0#8, 1#8, 3#8, 5#8, 7#8, 8#8], (silent true 0#16 w).pulseCount = (silent true 0#16 w).prevPulseCount ∧
      (silent true 0#16 w).idleWindowCount ≠ 2#8 ∧ (silent true 0#16 w).idleWindowCount ≠ 4#8 ∧
      (silent true 0#16 w).idleWindowCount ≠ 6#8 := by decide
theorem witness_TickAtAGoodBoundary :
    (silent false 130#16 2#8).pulseCount = (silent false 130#16 2#8).prevPulseCount ∧
      (silent false 130#16 2#8).idleWindowCount = 2#8 ∧ (silent false 130#16 2#8).pulseCount = 130#16 := ⟨rfl, rfl, rfl⟩
theorem witness_TickAtAWrongTotal :
    (silent true 129#16 2#8).pulseCount = (silent true 129#16 2#8).prevPulseCount ∧
      (silent true 129#16 2#8).idleWindowCount = 2#8 ∧ (silent true 129#16 2#8).pulseCount ≠ 130#16 :=
  ⟨rfl, rfl, fun h => absurd h (by decide)⟩
theorem witness_TickAtTheParityWindow :
    (silent true 0#16 4#8).pulseCount = (silent true 0#16 4#8).prevPulseCount ∧
      (silent true 0#16 4#8).idleWindowCount = 4#8 := by decide
theorem witness_TickAtSignalLoss :
    (silent true 0#16 6#8).pulseCount = (silent true 0#16 6#8).prevPulseCount ∧
      (silent true 0#16 6#8).idleWindowCount = 6#8 := by decide
theorem witness_LostSignalRetractsTheParityError :
    { silent true 0#16 4#8 with parityErrorCount := 0xFF#8 }.pulseCount =
        { silent true 0#16 4#8 with parityErrorCount := 0xFF#8 }.prevPulseCount ∧
      { silent true 0#16 4#8 with parityErrorCount := 0xFF#8 }.idleWindowCount = 4#8 := by decide
theorem witness_TickLabelSaysWhatTheTickDid :
    (∃ t, exec .tick (silent true 129#16 2#8) = .next t) ∧ (silent true 129#16 2#8).tickLabel = .pulseCountError ∧
    (∃ t, exec .tick (silent true 130#16 2#8) = .next t) ∧ (silent true 130#16 2#8).tickLabel = .cycleOk ∧
    (∃ t, exec .tick (silent true 0#16 4#8) = .next t) ∧ (silent true 0#16 4#8).tickLabel = .parityError ∧
    (∃ t, exec .tick (silent true 0#16 6#8) = .next t) ∧ (silent true 0#16 6#8).tickLabel = .signalLoss ∧
    (∃ t, exec .tick (silent true 0#16 8#8) = .next t) ∧ (silent true 0#16 8#8).tickLabel = .none :=
  ⟨⟨_, rfl⟩, by decide, ⟨_, rfl⟩, by decide, ⟨_, rfl⟩, by decide, ⟨_, rfl⟩, by decide, ⟨_, rfl⟩, by decide⟩
theorem witness_SignalIsOkIsClearedByThreeCauses :
    (∃ t, exec .tick (silent true 129#16 2#8) = .next t ∧ t.signalIsOk = false) ∧
    (∃ t, exec .tick { silent true 0#16 4#8 with byteWasSent := true } = .next t ∧ t.signalIsOk = false) ∧
    (∃ t, exec .tick (silent true 0#16 6#8) = .next t ∧ t.signalIsOk = false) :=
  ⟨⟨_, rfl, by decide⟩, ⟨_, rfl, by decide⟩, ⟨_, rfl, by decide⟩⟩
theorem witness_SynchronisationIsGainedOnlyAtAGoodBoundary :
    ∃ t, exec .tick (silent false 130#16 2#8) = .next t ∧ (silent false 130#16 2#8).signalIsOk = false ∧
      t.signalIsOk = true := ⟨_, rfl, by decide⟩
theorem witness_ThreeSilentTicksJudgeTheCycle :
    (silent true 0#16 8#8).pulseCount = 0#16 ∧ (silent true 0#16 8#8).prevPulseCount = 0#16 ∧ 130 % 65536 ≠ 0 ∧
      130 % 65536 = 130 ∧ 65666 % 65536 = 130 ∧ 1 % 65536 ≠ 0 ∧ 65535 % 65536 ≠ 0 := by decide
theorem witness_ThreeSilentTicksJudgeTheCycle_wrapped :
    two.pulseCount = 0#16 ∧ two.prevPulseCount = 0#16 ∧ 65536 % 65536 = 0 ∧ two.idleWindowCount = 0#8 := by decide
theorem witness_ThreeSilentTicksJudgeTheCycle_policies :
    { two with params := { par with policyPulseCount := .never } }.params.policyPulseCount = .never ∧
      { two with params := { par with policyPulseCount := .ifJustTransmitted } }.params.policyPulseCount =
        .ifJustTransmitted ∧ two.params.policyPulseCount = .always := by decide

theorem witness_PollWhileDesynchronised_claim :
    { armed 0#16 with signalIsOk := false }.connAt 0#4 = some (fb 5#8 .sendingNibble2 false [0x55#8]) ∧
      { armed 0#16 with signalIsOk := false }.signalIsOk = false ∧
      { armed 0#16 with signalIsOk := false }.slot = some slotCA ∧
      slotCA.addr = (fb 5#8 .sendingNibble2 false [0x55#8]).address := by decide
theorem witness_PollWhileDesynchronised_noClaim :
    { two with signalIsOk := false }.connAt 0#4 = some connected ∧ { two with signalIsOk := false }.slot = none ∧
      { two with signalIsOk := false, slot := some ⟨7#8, 0xCA#8⟩ }.slot = some ⟨7#8, 0xCA#8⟩ ∧
      (7#8 : Byte) ≠ connected.address := by decide
theorem witness_PollRaisesTheRequest :
    two.connAt 1#4 = some (fb 7#8 .unsynchronized false []) ∧ two.signalIsOk = true ∧
      (fb 7#8 .unsynchronized false []).state = .unsynchronized := by decide
theorem witness_PollWaitsForTheAnswer :
    ∀ r ∈ [true, false], (block true [fb 5#8 .feedbackNeeded r []]).connAt 0#4 = some (fb 5#8 .feedbackNeeded r []) ∧
      (block true [fb 5#8 .feedbackNeeded r []]).signalIsOk = true ∧
      (fb 5#8 .feedbackNeeded r []).state = .feedbackNeeded ∧ (fb 5#8 .feedbackNeeded r []).feedbackRequested = r := by
  decide
theorem witness_PollHandsTheOldestFrameOver :
    ∀ a ∈ [1#8, 128#8], ∀ st ∈ [ConnState.sendingNibble1, .sendingNibble2, .connected],
      (block true [fb a st false [0xCA#8, 0x55#8]]).connAt 0#4 = some (fb a st false [0xCA#8, 0x55#8]) ∧
        (block true [fb a st false [0xCA#8, 0x55#8]]).signalIsOk = true ∧
        (fb a st false [0xCA#8, 0x55#8]).queue = 0xCA#8 :: [0x55#8] ∧
        (block true [fb a st false [0xCA#8, 0x55#8]]).slot = none ∧ 1 ≤ a.toNat ∧ a.toNat ≤ 128 ∧
        (fb a st false [0xCA#8, 0x55#8]).state = st := by decide
theorem witness_PollWithoutAHandoffChangesNothing_queue :
    (block true [fb 5#8 .connected false []]).connAt 0#4 = some (fb 5#8 .connected false []) ∧
      (block true [fb 5#8 .connected false []]).signalIsOk = true ∧
      (fb 5#8 .connected false []).state = .connected ∧ (fb 5#8 .connected false []).queue = [] := by decide
theorem witness_PollWithoutAHandoffChangesNothing_slot :
    (armed 0#16).connAt 0#4 = some (fb 5#8 .sendingNibble2 false [0x55#8]) ∧ (armed 0#16).signalIsOk = true ∧
      (fb 5#8 .sendingNibble2 false [0x55#8]).state = .sendingNibble2 ∧ (armed 0#16).slot ≠ none := by decide
theorem witness_PollWithoutAHandoffChangesNothing_address :
    ∀ a ∈ [0#8, 129#8, 255#8], (block true [fb a .sendingNibble1 false [0xCA#8]]).connAt 0#4 =
        some (fb a .sendingNibble1 false [0xCA#8]) ∧
      (block true [fb a .sendingNibble1 false [0xCA#8]]).signalIsOk = true ∧
      (fb a .sendingNibble1 false [0xCA#8]).state = .sendingNibble1 ∧ (a.toNat = 0 ∨ 129 ≤ a.toNat) := by decide
theorem witness_ConnectionStatesFollowTheTable :
    (∃ t, exec (.poll 0#4) two = .next t ∧ two.connAt 0#4 = some connected ∧
      t.connAt 0#4 = some (fb 5#8 .connected false []) ∧ two.canHandoff connected = true) ∧
    (∃ t, exec (.poll 1#4) two = .next t ∧ two.connAt 1#4 = some (fb 7#8 .unsynchronized false []) ∧
      t.connAt 1#4 = some (fb 7#8 .feedbackNeeded true [])) ∧
    (∃ t, exec (.cfg 0#4 9#8 .feedback 0#8) two = .next t ∧ t.connAt 0#4 = some (fb 9#8 .unsynchronized false [])) ∧
    (∃ t, exec (.req8 1#4 0xA5#8) two = .next t ∧ t.connAt 0#4 = some connected) :=
  ⟨⟨_, rfl, by decide⟩, ⟨_, rfl, by decide⟩, ⟨_, rfl, by decide⟩, ⟨_, rfl, by decide⟩⟩
theorem witness_DesynchronisedConnectionReannounces :
    { armed 0#16 with signalIsOk := false }.connAt 0#4 = some (fb 5#8 .sendingNibble2 false [0x55#8]) ∧
      { armed 0#16 with signalIsOk := false }.signalIsOk = false := by decide
theorem witness_SlotIsFilledOnlyWhenEmpty :
    ∃ t, exec (.poll 0#4) two = .next t ∧ t.slot = some slotCA ∧ two.slot = none := ⟨_, rfl, by decide⟩
theorem witness_AddressOutOfRangeNeverFillsTheSlot :
    ∃ t, { block true [fb 129#8 .connected false [0x5C#8]] with slot := some slotCA }.connAt 0#4 =
        some (fb 129#8 .connected false [0x5C#8]) ∧ 129 ≤ (129#8 : Byte).toNat ∧
      exec (.poll 0#4) { block true [fb 129#8 .connected false [0x5C#8]] with slot := some slotCA } = .next t ∧
      t.slot = some slotCA := ⟨_, by decide, by decide, rfl, by decide⟩
theorem witness_AddressOutOfRangeNeverFillsTheSlot_zero :
    ∃ t, { block true [fb 0#8 .connected false [0x5C#8]] with slot := some slotCA }.connAt 0#4 =
        some (fb 0#8 .connected false [0x5C#8]) ∧ (0#8 : Byte).toNat = 0 ∧
      exec (.poll 0#4) { block true [fb 0#8 .connected false [0x5C#8]] with slot := some slotCA } = .next t ∧
      t.slot = some slotCA := ⟨_, by decide, by decide, rfl, by decide⟩
/-- A synchronised block, `n` pulses counted, with one connection that has one frame queued. -/
def waiting (a : Byte) (st : ConnState) (n : PulseNumber) : State :=
  { block true [fb a st false [0xCA#8]] with pulseCount := n }
theorem witness_HandedOverByteGoesOutOnItsPulse_first :
    (waiting 1#8 .sendingNibble1 0#16).connAt 0#4 = some (fb 1#8 .sendingNibble1 false [0xCA#8]) ∧ (waiting 1#8 .sendingNibble1 0#16).signalIsOk = true ∧
      (fb 1#8 .sendingNibble1 false [0xCA#8]).handsOff ∧ (fb 1#8 .sendingNibble1 false [0xCA#8]).queue = 0xCA#8 :: [] ∧
      (waiting 1#8 .sendingNibble1 0#16).slot = none ∧ (1#8 : Byte).toNat ≤ 128 ∧
      (waiting 1#8 .sendingNibble1 0#16).pulseCount.toNat < (1#8 : Byte).toNat ∧
      (waiting 1#8 .sendingNibble1 0#16).params.armPolicy = .immediate :=
  ⟨rfl, rfl, .inl rfl, rfl, rfl, by decide, Nat.lt_succ_self 0, rfl⟩
theorem witness_HandedOverByteGoesOutOnItsPulse_second :
    (waiting 1#8 .sendingNibble2 0#16).connAt 0#4 = some (fb 1#8 .sendingNibble2 false [0xCA#8]) ∧ (waiting 1#8 .sendingNibble2 0#16).signalIsOk = true ∧
      (fb 1#8 .sendingNibble2 false [0xCA#8]).handsOff ∧ (fb 1#8 .sendingNibble2 false [0xCA#8]).queue = 0xCA#8 :: [] ∧
      (waiting 1#8 .sendingNibble2 0#16).slot = none ∧ (1#8 : Byte).toNat ≤ 128 ∧
      (waiting 1#8 .sendingNibble2 0#16).pulseCount.toNat < (1#8 : Byte).toNat ∧
      (waiting 1#8 .sendingNibble2 0#16).params.armPolicy = .immediate :=
  ⟨rfl, rfl, .inr (.inl rfl), rfl, rfl, by decide, Nat.lt_succ_self 0, rfl⟩
theorem witness_HandedOverByteGoesOutOnItsPulse_last :
    (waiting 128#8 .connected 127#16).connAt 0#4 = some (fb 128#8 .connected false [0xCA#8]) ∧
      (waiting 128#8 .connected 127#16).signalIsOk = true ∧ (fb 128#8 .connected false [0xCA#8]).handsOff ∧
      (fb 128#8 .connected false [0xCA#8]).queue = 0xCA#8 :: [] ∧ (waiting 128#8 .connected 127#16).slot = none ∧
      (128#8 : Byte).toNat ≤ 128 ∧ (waiting 128#8 .connected 127#16).pulseCount.toNat < (128#8 : Byte).toNat ∧
      (waiting 128#8 .connected 127#16).params.armPolicy = .immediate :=
  ⟨rfl, rfl, .inr (.inr rfl), rfl, rfl, Nat.le_refl 128, Nat.lt_succ_self 127, rfl⟩
/-- `waiting` under `ARM_POLICY = Boundary`. -/
def waitingForBoundary (a : Byte) (st : ConnState) (n : PulseNumber) : State :=
  { waiting a st n with params := { par with armPolicy := .boundary } }
theorem witness_HandedOverByteWaitsForTheBoundary_first :
    (waitingForBoundary 1#8 .sendingNibble1 0#16).connAt 0#4 = some (fb 1#8 .sendingNibble1 false [0xCA#8]) ∧
      (waitingForBoundary 1#8 .sendingNibble1 0#16).signalIsOk = true ∧ (fb 1#8 .sendingNibble1 false [0xCA#8]).handsOff ∧
      (fb 1#8 .sendingNibble1 false [0xCA#8]).queue = 0xCA#8 :: [] ∧ (waitingForBoundary 1#8 .sendingNibble1 0#16).slot = none ∧
      1 ≤ (1#8 : Byte).toNat ∧ (1#8 : Byte).toNat ≤ 128 ∧ (waitingForBoundary 1#8 .sendingNibble1 0#16).pulseCount.toNat ≤ 130 ∧
      (waitingForBoundary 1#8 .sendingNibble1 0#16).prevPulseCount ≠ 130#16 ∧
      (waitingForBoundary 1#8 .sendingNibble1 0#16).params.armPolicy = .boundary :=
  ⟨rfl, rfl, .inl rfl, rfl, rfl, by decide, by decide, Nat.zero_le 130, fun e => absurd (congrArg BitVec.toNat e) (Nat.zero_ne_add_one 129), rfl⟩
theorem witness_HandedOverByteWaitsForTheBoundary_second :
    (waitingForBoundary 1#8 .sendingNibble2 0#16).connAt 0#4 = some (fb 1#8 .sendingNibble2 false [0xCA#8]) ∧
      (waitingForBoundary 1#8 .sendingNibble2 0#16).signalIsOk = true ∧ (fb 1#8 .sendingNibble2 false [0xCA#8]).handsOff ∧
      (fb 1#8 .sendingNibble2 false [0xCA#8]).queue = 0xCA#8 :: [] ∧ (waitingForBoundary 1#8 .sendingNibble2 0#16).slot = none ∧
      1 ≤ (1#8 : Byte).toNat ∧ (1#8 : Byte).toNat ≤ 128 ∧ (waitingForBoundary 1#8 .sendingNibble2 0#16).pulseCount.toNat ≤ 130 ∧
      (waitingForBoundary 1#8 .sendingNibble2 0#16).prevPulseCount ≠ 130#16 ∧
      (waitingForBoundary 1#8 .sendingNibble2 0#16).params.armPolicy = .boundary :=
  ⟨rfl, rfl, .inr (.inl rfl), rfl, rfl, by decide, by decide, Nat.zero_le 130, fun e => absurd (congrArg BitVec.toNat e) (Nat.zero_ne_add_one 129), rfl⟩
theorem witness_HandedOverByteWaitsForTheBoundary_last :
    (waitingForBoundary 128#8 .connected 130#16).connAt 0#4 = some (fb 128#8 .connected false [0xCA#8]) ∧
      (waitingForBoundary 128#8 .connected 130#16).signalIsOk = true ∧ (fb 128#8 .connected false [0xCA#8]).handsOff ∧
      (fb 128#8 .connected false [0xCA#8]).queue = 0xCA#8 :: [] ∧
      (waitingForBoundary 128#8 .connected 130#16).slot = none ∧ 1 ≤ (128#8 : Byte).toNat ∧ (128#8 : Byte).toNat ≤ 128 ∧
      (waitingForBoundary 128#8 .connected 130#16).pulseCount.toNat ≤ 130 ∧
      (waitingForBoundary 128#8 .connected 130#16).prevPulseCount ≠ 130#16 ∧
      (waitingForBoundary 128#8 .connected 130#16).params.armPolicy = .boundary :=
  ⟨rfl, rfl, .inr (.inr rfl), rfl, rfl, Nat.le_add_left 1 127, Nat.le_refl 128, Nat.le_refl 130,
    fun e => absurd (congrArg BitVec.toNat e) (Nat.zero_ne_add_one 129), rfl⟩

theorem witness_ConfigureResult_claim :
    (armed 0#16).connAt 0#4 = some (fb 5#8 .sendingNibble2 false [0x55#8]) ∧ (armed 0#16).slot = some slotCA ∧
      slotCA.addr = (fb 5#8 .sendingNibble2 false [0x55#8]).address := by decide
theorem witness_ConfigureResult_noClaim :
    two.connAt 0#4 = some connected ∧ two.slot = none ∧ { two with slot := some ⟨7#8, 0xCA#8⟩ }.slot = some ⟨7#8, 0xCA#8⟩ ∧
      (7#8 : Byte) ≠ connected.address := by decide
theorem witness_RequestNibbleResult : two.connAt 0#4 = some connected := by decide
theorem witness_RequestByteResult :
    ∃ q₁ q₂ : List Byte, two.connAt 0#4 = some connected ∧
      q₁ = connected.queue ++ List.replicate (min (connected.fecFactor.toNat + 1) (16 - connected.queue.length))
        (encNib two.params .low ((0xA5#8 : Byte).extractLsb' 0 4) connected.deviceType) ∧
      q₂ = q₁ ++ List.replicate (min (connected.fecFactor.toNat + 1) (16 - q₁.length))
        (encNib two.params .high ((0xA5#8 : Byte).extractLsb' 4 4) connected.deviceType) ∧
      q₂ = [0xCA#8, 0xCA#8, 0x55#8] := ⟨_, _, by decide, rfl, rfl, by decide⟩
theorem witness_ReadsReturnTheirRegister : two.connAt 1#4 = some (fb 7#8 .unsynchronized false []) := by decide
theorem witness_FeedbackRequestedHasTheseWriters_set :
    ∃ t, exec (.poll 1#4) two = .next t ∧ two.connAt 1#4 = some (fb 7#8 .unsynchronized false []) ∧
      t.connAt 1#4 = some (fb 7#8 .feedbackNeeded true []) := ⟨_, rfl, by decide⟩
theorem witness_FeedbackRequestedHasTheseWriters_cleared :
    (block true [fb 5#8 .feedbackNeeded true []]).connAt 0#4 = some (fb 5#8 .feedbackNeeded true []) ∧
    (∃ t, exec (.req8 0#4 0xA5#8) (block true [fb 5#8 .feedbackNeeded true []]) = .next t ∧
      t.connAt 0#4 = some (fb 5#8 .feedbackNeeded false [0xCA#8, 0x55#8])) ∧
    (∃ t, exec (.cfg 0#4 5#8 .feedback 0#8) (block true [fb 5#8 .feedbackNeeded true []]) = .next t ∧
      t.connAt 0#4 = some (fb 5#8 .unsynchronized false [])) ∧
    (∃ t, exec (.poll 0#4) (block false [fb 5#8 .feedbackNeeded true []]) = .next t ∧
      t.connAt 0#4 = some (fb 5#8 .unsynchronized false [])) :=
  ⟨by decide, ⟨_, rfl, by decide⟩, ⟨_, rfl, by decide⟩, ⟨_, rfl, by decide⟩⟩
theorem witness_OtherConnectionsAreUntouched :
    ∃ t, exec (.poll 0#4) two = .next t ∧ (Instr.poll 0#4).conn ≠ some 1#4 ∧ t.slot = some slotCA := ⟨_, rfl, by decide⟩
theorem witness_HostEventsLeaveTheSyncState :
    ∃ t, exec (.poll 0#4) two = .next t ∧ Instr.poll 0#4 ≠ .pulse ∧ Instr.poll 0#4 ≠ .tick := ⟨_, rfl, by decide⟩
theorem witness_RequestsOfDifferentConnectionsCommute :
    isRequestOf (.req4 0#4 .low 5#4) 0#4 ∧ isRequestOf (.req8 1#4 0xA5#8) 1#4 ∧ (0#4 : ConnId) ≠ 1#4 :=
  ⟨.inl ⟨_, _, rfl⟩, .inr ⟨_, rfl⟩, by decide⟩

/-- The block with the byte `CA` for address 5 in the slot and another frame queued meets the invariant. -/
theorem armed_inv : (armed 4#16).Inv := by decide
theorem witness_EveryStepKeepsTheInvariant :
    ∃ t, { armed 4#16 with arrivals := [.code (.evt32 0x10000000#32)] }.Inv ∧
      step { armed 4#16 with arrivals := [.code (.evt32 0x10000000#32)] } = .next t ∧
      t.sinkTrace = [⟨5#16, 0xCA#8⟩] := ⟨_, by decide, rfl, by decide⟩
theorem witness_SilenceLeavesBothCountsZero :
    ∃ t, { silent true 130#16 2#8 with conns := [connected] }.Inv ∧
      exec .tick { silent true 130#16 2#8 with conns := [connected] } = .next t ∧ 3 ≤ t.idleWindowCount.toNat :=
  ⟨_, by decide, rfl, by decide⟩
theorem witness_ParametersNeverChange : ∃ t, step (next two 0x40090002#32) = .next t ∧ t.slot = none := ⟨_, rfl, by decide⟩

end Sys2Proof.Tests
end

/-! # Proofs: what a step keeps

The parts: the step on one item (R67), the parameters and the number of connections (R37), the frames the encoder makes
(R82, R86), and the invariant of R40, first rule by rule over the state's operations, then over the events. -/

/-! ## The step on one item -/

section
namespace Sys2Proof.Machine

/-- The step on a word takes it off the arrivals and runs it (R67). -/
theorem step_of_code {s : State} {c : Code} {rest : List Arrival} (h : s.arrivals = .code c :: rest) :
    step s = runCode c { s with arrivals := rest } := by
  simp [step, State.take, h, deliver]

theorem runCode_of_decode {c : Code} {i : Instr} (h : decode c = .ok i) (s : State) : runCode c s = exec i s := by
  simp [runCode, h]

/-- Settles O5: the step's fetch, then the decoder's answer. -/
theorem stepRunsTheDecodedInstruction : Obligations.StepRunsTheDecodedInstruction := by
  intro s c rest i harr hdec
  rw [step_of_code harr, runCode_of_decode hdec]

end Sys2Proof.Machine
end

/-! ## The parameters and the number of connections -/

section
namespace Sys2Proof.Machine

@[simp] theorem sendSlot_conns (s : State) (x : Slot) : (s.sendSlot x).conns = s.conns := rfl
@[simp] theorem sendSlot_params (s : State) (x : Slot) : (s.sendSlot x).params = s.params := rfl

@[simp] theorem resetBlock_params (s : State) : s.resetBlock.params = s.params := rfl

@[simp] theorem resetBlock_nconn (s : State) : s.resetBlock.nconn = s.nconn := by
  simp [State.resetBlock, State.nconn]

theorem nconn_congr {s t : State} (h : t.conns = s.conns) : t.nconn = s.nconn := congrArg List.length h

@[simp] theorem pulse_conns (s : State) : s.pulse.conns = s.conns := by
  rcases pulse_cases s with ⟨x, -, -, -, h⟩ | ⟨-, h⟩ <;> simp [h]

@[simp] theorem pulse_params (s : State) : s.pulse.params = s.params := by
  rcases pulse_cases s with ⟨x, -, -, -, h⟩ | ⟨-, h⟩ <;> simp [h]

/-- A tick writes no connection record (R140). -/
@[simp] theorem tick_conns (s : State) : s.tick.conns = s.conns := by
  rcases tick_cases s with
    ⟨-, h⟩ | ⟨-, ⟨-, -, h⟩ | ⟨-, -, h⟩ | ⟨-, h⟩ | ⟨-, h⟩ | ⟨-, -, -, h⟩⟩ <;>
    simp [h, cycleOk_eq, pulseCountError_eq, parityWindow_eq]

@[simp] theorem tick_params (s : State) : s.tick.params = s.params := by
  rcases tick_cases s with
    ⟨-, h⟩ | ⟨-, ⟨-, -, h⟩ | ⟨-, -, h⟩ | ⟨-, h⟩ | ⟨-, h⟩ | ⟨-, -, -, h⟩⟩ <;>
    simp [h, cycleOk_eq, pulseCountError_eq, parityWindow_eq]

/-- An event of the host answers, or replaces one connection record: both keep the parameters and the number of
connections. -/
theorem host_event_params_nconn {i : Instr} {s t : State} (h : exec i s = .next t) (hp : i ≠ .pulse) (ht : i ≠ .tick) :
    t.params = s.params ∧ t.nconn = s.nconn := by
  rcases host_event_shape h hp ht with ⟨v, rfl⟩ | ⟨c, k, k', v, -, -, rfl | rfl | ⟨x, -, rfl⟩⟩ <;> simp [State.nconn]

theorem exec_params_nconn {i : Instr} {s t : State} (h : exec i s = .next t) :
    t.params = s.params ∧ t.nconn = s.nconn := by
  by_cases hp : i = .pulse
  · subst hp
    cases h
    exact ⟨pulse_params s, nconn_congr (pulse_conns s)⟩
  by_cases ht : i = .tick
  · subst ht
    cases h
    exact ⟨tick_params s, nconn_congr (tick_conns s)⟩
  exact host_event_params_nconn h hp ht

/-- Settles O59, by what a step can do: wait, reset, run an event, or ignore a word. -/
theorem parametersNeverChange : Obligations.ParametersNeverChange := by
  intro s t h
  rcases step_cases s with ⟨-, hs⟩ | ⟨rest, -, hs⟩ | ⟨c, rest, i, -, -, hs⟩ | ⟨c, rest, e, -, -, hs⟩ <;> rw [hs] at h
  · cases h
    exact ⟨rfl, rfl⟩
  · cases h
    exact ⟨resetBlock_params _, resetBlock_nconn _⟩
  · exact exec_params_nconn (s := { s with arrivals := rest }) h
  · cases h
    exact ⟨rfl, rfl⟩

end Sys2Proof.Machine
end

/-! ## The frames the encoder makes -/

section
namespace Sys2Proof.Machine

/-- A bit put on top of a word adds itself to the number of ones. -/
theorem popcount_ofBool_append {w : Nat} (b : Bool) (v : BitVec w) :
    popcount (BitVec.ofBool b ++ v) = popcount v + b.toNat := by
  have low : ∀ i ∈ List.range w, (BitVec.ofBool b ++ v).getLsbD i = v.getLsbD i := by
    intro i hi
    simp [BitVec.getLsbD_append, List.mem_range.mp hi]
  have top : (BitVec.ofBool b ++ v).getLsbD w = b := by
    rw [BitVec.getLsbD_append]
    simp
  have range : List.range (1 + w) = List.range w ++ [w] := by
    rw [Nat.add_comm, List.range_succ]
  rw [popcount, range, List.filter_append, List.length_append, List.filter_congr low, List.filter_singleton, top]
  cases b <;> rfl

/-- A word with its parity bit on top has an even number of ones (R82). -/
theorem popcount_parityBit_append {w : Nat} (v : BitVec w) :
    popcount (BitVec.ofBool (parityBit v) ++ v) % 2 = 0 := by
  rw [popcount_ofBool_append, parityBit]
  rcases Nat.mod_two_eq_zero_or_one (popcount v) with h | h <;> simp [h, Nat.add_mod]

@[simp] theorem popcount_encNib_even (p : Params) (pos : Position) (v : Nibble) (t : DeviceType) :
    popcount (encNib p pos v t) % 2 = 0 :=
  popcount_parityBit_append _

@[simp] theorem encNib_typeBits (p : Params) (pos : Position) (v : Nibble) (t : DeviceType) :
    (encNib p pos v t).extractLsb' 5 2 = typeBits p t := by
  apply BitVec.eq_of_getLsbD_eq
  intro i hi
  simp only [encNib, frameBody, BitVec.getLsbD_extractLsb', BitVec.getLsbD_append]
  simp [hi, show 5 + i < 7 by omega, show ¬ (5 + i < 4) by omega, show ¬ (5 + i - 4 < 1) by omega,
    show 5 + i - 4 - 1 = i by omega]

@[simp] theorem encNib_nibbleSelect (p : Params) (pos : Position) (v : Nibble) (t : DeviceType) :
    (encNib p pos v t).extractLsb' 4 1 = nibbleSelect p pos := by
  apply BitVec.eq_of_getLsbD_eq
  intro i hi
  simp only [encNib, frameBody, BitVec.getLsbD_extractLsb', BitVec.getLsbD_append]
  simp [hi, show 4 + i < 7 by omega, show ¬ (4 + i < 4) by omega]

/-- What the encoder makes is a legal frame, for every value of the parameters (R86). -/
theorem legalFrame_encNib (p : Params) (pos : Position) (v : Nibble) (t : DeviceType) :
    legalFrame p (encNib p pos v t) = true := by
  have htype : typeBits p t = p.ttSwitch ∨ typeBits p t = p.ttFeedback := by
    cases t
    · exact .inl rfl
    · exact .inr rfl
  have hsel : nibbleSelect p pos = p.nselLow ∨ nibbleSelect p pos = p.nselHigh := by
    cases pos
    · exact .inl rfl
    · exact .inr rfl
  simp [legalFrame, htype, hsel]

theorem mirror8_eq (v : Byte) : mirror8 v = rev4 (lowNibble v) ++ rev4 (highNibble v) := rfl

@[simp] theorem mirror8_mirror8 (v : Byte) : mirror8 (mirror8 v) = v := by
  simp [mirror8_eq]

/-- Mirroring what the sink was given recovers the frame (R95). -/
@[simp] theorem sinkByte_sinkByte (p : Params) (b : Byte) : sinkByte p (sinkByte p b) = b := by
  cases h : p.sinkMirror <;> simp [sinkByte, h]

end Sys2Proof.Machine
end

/-! ## The invariant, part by part

`State.Inv` is written in the spec's order (R40). `State.Safe` says the same by the part of the state a condition
reads, so that an operation has to restore only the parts it writes; the number of connections is apart, since no
step changes it. -/

section
namespace Sys2Proof.Machine

/-- What the invariant asks of a connection record: its queue (INV5, INV7) and its request. -/
structure Connection.Safe (p : Params) (k : Connection) : Prop where
  short : k.queue.length ≤ 16
  frames : ∀ b ∈ k.queue, legalFrame p b = true
  request : k.feedbackRequested = true → k.state = .feedbackNeeded

/-- What the invariant asks of the byte in the slot (INV3, INV7). -/
structure Slot.Safe (p : Params) (x : Slot) : Prop where
  address : 1 ≤ x.addr.toNat ∧ x.addr.toNat ≤ 128
  frame : legalFrame p x.frame = true

structure State.Safe (s : State) : Prop where
  conns : ∀ k ∈ s.conns, k.Safe s.params
  slot : ∀ x ∈ s.slot, x.Safe s.params
  armed : s.ArmedOnlyIfValid
  window : s.idleWindowCount.toNat ≤ 8
  silence : s.SilenceHasZeroCopy
  sent : ∀ e ∈ s.sinkTrace, legalFrame s.params (sinkByte s.params e.byte) = true

theorem inv_iff (s : State) : s.Inv ↔ s.Safe ∧ s.ConnectionCountLegal := by
  constructor
  · rintro ⟨haddr, harmed, ⟨hwindow, hshort⟩, hsilence, ⟨hqueue, hslot, hsent⟩, hcount, hrequest⟩
    exact ⟨⟨fun k hk => ⟨hshort k hk, hqueue k hk, hrequest k hk⟩, fun x hx => ⟨haddr x hx, hslot x hx⟩, harmed,
      hwindow, hsilence, hsent⟩, hcount⟩
  · rintro ⟨h, hcount⟩
    exact ⟨fun x hx => (h.slot x hx).address, h.armed, ⟨h.window, fun k hk => (h.conns k hk).short⟩, h.silence,
      ⟨fun k hk => (h.conns k hk).frames, fun x hx => (h.slot x hx).frame, h.sent⟩, hcount,
      fun k hk => (h.conns k hk).request⟩

/-! ### Connection records -/

section
variable {p : Params} {k : Connection}

theorem Connection.safe_reset : Connection.reset.Safe p := ⟨by decide, by simp [Connection.reset], by decide⟩

theorem Connection.safe_desynchronised : (desynchronised k).Safe p :=
  ⟨by simp [desynchronised], by simp [desynchronised], by simp [desynchronised]⟩

/-- Raising the request together with `FeedbackNeeded` (R125). -/
theorem Connection.Safe.request_feedback (h : k.Safe p) :
    ({ k with feedbackRequested := true, state := .feedbackNeeded } : Connection).Safe p :=
  ⟨h.short, h.frames, fun _ => rfl⟩

/-- Without a request any state may follow. -/
theorem Connection.Safe.set_state (h : k.Safe p) (hf : k.feedbackRequested = false) (n : ConnState) :
    ({ k with state := n } : Connection).Safe p :=
  ⟨h.short, h.frames, fun hr => absurd hr (by simp [hf])⟩

theorem Connection.Safe.clear_request (h : k.Safe p) : ({ k with feedbackRequested := false } : Connection).Safe p :=
  ⟨h.short, h.frames, fun hr => absurd hr Bool.false_ne_true⟩

theorem Connection.Safe.no_request (h : k.Safe p) (hs : k.state ≠ .feedbackNeeded) : k.feedbackRequested = false :=
  Bool.eq_false_iff.mpr fun hr => hs (h.request hr)

/-- Only as many copies enter as there is room for (R104), and all of them are the legal frame. -/
theorem Connection.Safe.enqueue (h : k.Safe p) {f : Byte} (hf : legalFrame p f = true) :
    (enqueue k f).Safe p where
  short := by
    have := h.short
    simp only [enqueue_queue, List.length_append, List.length_replicate]
    omega
  frames := by
    intro b hb
    rw [enqueue_queue, List.mem_append] at hb
    rcases hb with hb | hb
    · exact h.frames b hb
    · rw [List.eq_of_mem_replicate hb]
      exact hf
  request := h.request

/-- Taking the oldest entry out. -/
theorem Connection.Safe.dequeue (h : k.Safe p) {f : Byte} {q : List Byte} (hq : k.queue = f :: q) :
    ({ k with queue := q } : Connection).Safe p where
  short := by
    have hlen : (f :: q).length ≤ 16 := hq ▸ h.short
    exact Nat.le_of_succ_le hlen
  frames := fun b hb => h.frames b (hq ▸ List.mem_cons_of_mem f hb)
  request := h.request

theorem Connection.Safe.head_legal (h : k.Safe p) {f : Byte} {q : List Byte} (hq : k.queue = f :: q) :
    legalFrame p f = true :=
  h.frames f (hq ▸ List.mem_cons_self)

end

/-! ### Operations on the state -/

section
variable {s : State}

/-- No condition reads the response. -/
theorem State.Safe.respond (h : s.Safe) (v : Byte) : (s.respond v).Safe :=
  ⟨h.conns, h.slot, h.armed, h.window, h.silence, h.sent⟩

/-- No condition reads what has arrived. -/
theorem State.Safe.set_arrivals (h : s.Safe) (l : List Arrival) : ({ s with arrivals := l } : State).Safe :=
  ⟨h.conns, h.slot, h.armed, h.window, h.silence, h.sent⟩

theorem State.Safe.setConn (h : s.Safe) {k : Connection} (hk : k.Safe s.params) (c : ConnId) : (s.setConn c k).Safe where
  conns := by
    intro k' hk'
    rcases List.mem_or_eq_of_mem_set hk' with hold | rfl
    · exact h.conns k' hold
    · exact hk
  slot := h.slot
  armed := h.armed
  window := h.window
  silence := h.silence
  sent := h.sent

theorem State.Safe.emptySlot (h : s.Safe) : s.emptySlot.Safe :=
  ⟨h.conns, by simp, ⟨by simp, fun _ => rfl⟩, h.window, h.silence, h.sent⟩

theorem State.Safe.releaseClaim (h : s.Safe) (k : Connection) : (s.releaseClaim k).Safe := by
  rcases releaseClaim_cases s k with ⟨-, hs⟩ | ⟨-, hs⟩ <;> rw [hs]
  · exact h.emptySlot
  · exact h

/-- A filled slot is armed at once exactly under `Immediate` (R28). -/
theorem State.Safe.fillSlot (h : s.Safe) {x : Slot} (hx : x.Safe s.params) : (s.fillSlot x).Safe where
  conns := h.conns
  slot := by
    intro y hy
    cases hy
    exact hx
  armed := ⟨fun _ => rfl, fun hp => beq_iff_eq.mpr hp⟩
  window := h.window
  silence := h.silence
  sent := h.sent

theorem State.Safe.connAt (h : s.Safe) {c : ConnId} {k : Connection} (hk : s.connAt c = some k) : k.Safe s.params :=
  h.conns k (List.mem_of_getElem? hk)

/-- An event addressed to a connection keeps the conditions if its effect on an existing connection does. -/
theorem State.Safe.onConnection (h : s.Safe) {c : ConnId} {f : Connection → State}
    (hf : ∀ k, k.Safe s.params → (f k).Safe) : (s.onConnection c f).Safe := by
  rcases onConnection_cases s c f with ⟨k, hk, hs⟩ | ⟨-, hs⟩ <;> rw [hs]
  · exact hf k (h.connAt hk)
  · exact h.respond _

/-- After `rst` nothing is held, queued, sent or requested (R42). -/
theorem State.safe_resetBlock (s : State) : s.resetBlock.Safe where
  conns := by
    intro k hk
    obtain ⟨-, -, rfl⟩ := List.mem_map.mp hk
    exact Connection.safe_reset
  slot := by simp [State.resetBlock, State.reset]
  armed := ⟨by simp [State.resetBlock, State.reset], fun _ => rfl⟩
  window := Nat.zero_le 8
  silence := fun _ => rfl
  sent := by simp [State.resetBlock, State.reset]

/-! ### PULSE -/

theorem State.Safe.countPulse (h : s.Safe) : s.countPulse.Safe :=
  ⟨h.conns, h.slot, h.armed, h.window, h.silence, h.sent⟩

/-- The entry added to `sinkTrace` is the slot's legal frame, mirrored as the parameters say. -/
theorem State.Safe.sinkSend (h : s.Safe) {b : Byte} (hb : legalFrame s.params b = true) : (s.sinkSend b).Safe where
  conns := h.conns
  slot := h.slot
  armed := h.armed
  window := h.window
  silence := h.silence
  sent := by
    intro e he
    rw [State.sinkSend_sinkTrace, List.mem_append, List.mem_singleton] at he
    rcases he with he | rfl
    · exact h.sent e he
    · simpa using hb

theorem State.Safe.setByteWasSent (h : s.Safe) (b : Bool) : (s.setByteWasSent b).Safe :=
  ⟨h.conns, h.slot, h.armed, h.window, h.silence, h.sent⟩

theorem State.Safe.pulse (h : s.Safe) : s.pulse.Safe := by
  rcases pulse_cases s with ⟨x, hx, -, -, hs⟩ | ⟨-, hs⟩ <;> rw [hs]
  · exact ((h.countPulse.sinkSend (h.slot x hx).frame).setByteWasSent true).emptySlot
  · exact h.countPulse

/-! ### TICK -/

theorem State.Safe.recordPulses (h : s.Safe) : s.recordPulses.Safe :=
  ⟨h.conns, h.slot, h.armed, by simp, by simp [State.SilenceHasZeroCopy], h.sent⟩

/-- A window other than 3 that is 3 or more follows one that is 3 or more, where the copy is 0 already. -/
theorem State.Safe.countWindow (h : s.Safe) (h3 : s.nextWindow ≠ 3) : s.countWindow.Safe where
  conns := h.conns
  slot := h.slot
  armed := h.armed
  window := by
    rw [countWindow_toNat]
    exact nextWindow_le s
  silence := by
    intro hw
    rw [countWindow_toNat] at hw
    have hnext : s.nextWindow = min (s.idleWindowCount.toNat + 1) 8 := rfl
    exact h.silence (by omega)
  sent := h.sent

/-- Any window may be entered if the counts are zeroed, as window 3 does (R146). -/
theorem State.Safe.countWindow_zeroCounts (h : s.Safe) : s.countWindow.zeroCounts.Safe where
  conns := h.conns
  slot := h.slot
  armed := h.armed
  window := by
    rw [State.zeroCounts_idleWindowCount, countWindow_toNat]
    exact nextWindow_le s
  silence := fun _ => rfl
  sent := h.sent

/-- A good boundary arms exactly an occupied slot (R144). -/
theorem State.Safe.cycleOk (h : s.Safe) : s.cycleOk.Safe := by
  rw [cycleOk_eq]
  obtain ⟨hvalid, himmediate⟩ := h.armed
  refine ⟨h.conns, h.slot, ⟨fun ha => ?_, fun hp => ?_⟩, h.window, h.silence, h.sent⟩
  · rcases Bool.or_eq_true_iff.mp ha with ha | ha
    · exact hvalid ha
    · exact ha
  · simp [himmediate hp]

theorem State.Safe.pulseCountError (h : s.Safe) : s.pulseCountError.Safe := by
  rw [pulseCountError_eq]
  exact ⟨h.conns, h.slot, h.armed, h.window, h.silence, h.sent⟩

theorem State.Safe.parityWindow (h : s.Safe) : s.parityWindow.Safe := by
  rw [parityWindow_eq]
  exact ⟨h.conns, h.slot, h.armed, h.window, h.silence, h.sent⟩

theorem State.Safe.lossWindow (h : s.Safe) : s.lossWindow.Safe :=
  ⟨h.conns, h.slot, h.armed, h.window, h.silence, h.sent⟩

/-- The judgement of window 3 reads neither of the counts that are zeroed after it. -/
theorem zeroCounts_cycleOk (s : State) : s.cycleOk.zeroCounts = s.zeroCounts.cycleOk := by
  rw [cycleOk_eq, cycleOk_eq]
  rfl

theorem zeroCounts_pulseCountError (s : State) : s.pulseCountError.zeroCounts = s.zeroCounts.pulseCountError := by
  rw [pulseCountError_eq, pulseCountError_eq]
  rfl

theorem State.Safe.tick (h : s.Safe) : s.tick.Safe := by
  rcases tick_cases s with
    ⟨-, hs⟩ | ⟨-, ⟨-, -, hs⟩ | ⟨-, -, hs⟩ | ⟨h5, hs⟩ | ⟨h7, hs⟩ | ⟨h3, -, -, hs⟩⟩ <;> rw [hs]
  · exact h.recordPulses
  · rw [zeroCounts_cycleOk]
    exact h.countWindow_zeroCounts.cycleOk
  · rw [zeroCounts_pulseCountError]
    exact h.countWindow_zeroCounts.pulseCountError
  · exact (h.countWindow (by omega)).parityWindow
  · exact (h.countWindow (by omega)).lossWindow
  · exact h.countWindow h3

/-! ### The events of the host -/

variable {k : Connection}

/-- A handoff moves a legal frame from the queue to the slot; its connection has no request pending (R127 to R130). -/
theorem State.Safe.handoffTo (h : s.Safe) (hk : k.Safe s.params) (hn : k.state ≠ .feedbackNeeded) (c : ConnId)
    (n : ConnState) : (s.handoffTo c k n).Safe := by
  rcases handoffTo_cases s c k n with ⟨f, q, hq, -, hlow, hhigh, hs⟩ | ⟨-, hs⟩ <;> rw [hs]
  · have hslot : Slot.Safe s.params ⟨k.address, f⟩ := ⟨⟨hlow, hhigh⟩, hk.head_legal hq⟩
    exact (h.fillSlot hslot).setConn ((hk.dequeue hq).set_state (hk.no_request hn) n) c
  · exact h

theorem State.Safe.poll (h : s.Safe) (hk : k.Safe s.params) (c : ConnId) : (s.poll c k).Safe := by
  rcases poll_cases s c k with
    ⟨-, hs⟩ | ⟨-, ⟨-, hs⟩ | ⟨-, -, hs⟩ | ⟨-, hreq, hs⟩ | ⟨hst, hs⟩ | ⟨hst, hs⟩⟩ <;> rw [hs]
  · exact (h.releaseClaim k).setConn Connection.safe_desynchronised c
  · exact h.setConn hk.request_feedback c
  · exact h
  · exact h.setConn (hk.set_state hreq _) c
  · exact h.handoffTo hk (by simp [hst]) c _
  · exact h.handoffTo hk (by rcases hst with hst | hst <;> simp [hst]) c _

theorem State.Safe.configure (h : s.Safe) (c : ConnId) (a : Byte) (t : DeviceType) (f : Byte) :
    (s.configure c k a t f).Safe :=
  (h.releaseClaim k).setConn Connection.safe_desynchronised c

theorem State.Safe.requestNibble (h : s.Safe) (hk : k.Safe s.params) (c : ConnId) (pos : Position) (v : Nibble) :
    (s.requestNibble c k pos v).Safe :=
  h.setConn (hk.enqueue (legalFrame_encNib _ _ _ _)) c

theorem State.Safe.requestByte (h : s.Safe) (hk : k.Safe s.params) (c : ConnId) (x : Byte) :
    (s.requestByte c k x).Safe :=
  h.setConn ((hk.enqueue (legalFrame_encNib _ _ _ _)).enqueue (legalFrame_encNib _ _ _ _)).clear_request c

end

/-! ### Every event and every step -/

theorem exec_safe {i : Instr} {s t : State} (h : s.Safe) (hexec : exec i s = .next t) : t.Safe := by
  cases i with
  | pulse => cases hexec; exact h.pulse.respond _
  | tick => cases hexec; exact h.tick.respond _
  | poll c => cases hexec; exact h.onConnection fun k hk => (h.poll hk c).respond _
  | cfg c a d f => cases hexec; exact h.onConnection fun k _ => (h.configure c a d f).respond _
  | req4 c p v => cases hexec; exact h.onConnection fun k hk => (h.requestNibble hk c p v).respond _
  | req8 c x => cases hexec; exact h.onConnection fun k hk => (h.requestByte hk c x).respond _
  | rdfb c => cases hexec; exact h.onConnection fun k _ => h.respond _
  | rdok => cases hexec; exact h.respond _
  | rdpar => cases hexec; exact h.respond _
  | rdpce => cases hexec; exact h.respond _
  | frameSwLo p d => cases hexec; exact h.respond _
  | frameSwHi p d => cases hexec; exact h.respond _
  | frameFbLo p d => cases hexec; exact h.respond _
  | frameFbHi p d => cases hexec; exact h.respond _

theorem step_safe {s t : State} (h : s.Safe) (hstep : step s = .next t) : t.Safe := by
  rcases step_cases s with ⟨-, hs⟩ | ⟨rest, -, hs⟩ | ⟨c, rest, i, -, -, hs⟩ | ⟨c, rest, e, -, -, hs⟩ <;>
    rw [hs] at hstep
  · cases hstep
    exact h
  · cases hstep
    exact State.safe_resetBlock _
  · exact exec_safe (h.set_arrivals rest) hstep
  · cases hstep
    exact (h.set_arrivals rest).respond _

/-- Settles O57: the conditions part by part, and O59 for the number of connections. -/
theorem everyStepKeepsTheInvariant : Obligations.EveryStepKeepsTheInvariant := by
  intro s t hinv hstep
  obtain ⟨hsafe, hcount⟩ := (inv_iff s).mp hinv
  obtain ⟨-, hnconn⟩ := parametersNeverChange s t hstep
  have hcount' : t.ConnectionCountLegal := by
    rwa [State.ConnectionCountLegal, hnconn]
  exact (inv_iff t).mpr ⟨step_safe hsafe hstep, hcount'⟩

end Sys2Proof.Machine
end

/-! # Proofs: the state, its reset and its writers

The parts: the table of R42 and `rst` (R200), what the events of the host leave alone (R41), one part for each register
with few writers (R36, R29, R34, R27), the counts in a silence (R40), and the whole way of a byte under
`ARM_POLICY = Boundary` (R28). -/

/-! ## Reset -/

section
namespace Sys2Proof.Machine

/-- Settles O9: every row by reading `State.reset`; the connection records are copies of one. -/
theorem resetStateIsTheTable : Obligations.ResetStateIsTheTable := by
  refine ⟨rfl, rfl, rfl, rfl, rfl, rfl, rfl, rfl, rfl, rfl, fun k hk => ?_⟩
  obtain rfl : k = Connection.reset := List.eq_of_mem_replicate hk
  exact ⟨rfl, rfl, rfl, rfl, rfl, rfl⟩

/-- The step on `rst` takes it off the arrivals and resets the block (R200). -/
theorem step_of_rst {s : State} {rest : List Arrival} (h : s.arrivals = .rst :: rest) :
    step s = .next ({ s with arrivals := rest } : State).resetBlock := by
  simp [step, State.take, h, deliver]

/-- Settles O10: what stays is named in the definition of `State.resetBlock`; the connections are counted. -/
theorem rstInputResetsEverything : Obligations.RstInputResetsEverything := by
  intro s rest harr
  rw [step_of_rst harr, State.resetBlock, List.map_const']
  rfl

/-- The state after reset is one that `rst` does not change. -/
theorem resetBlock_reset : State.reset.resetBlock = State.reset := by
  simp [State.resetBlock, State.reset]

/-- Settles O56: what `rst` leaves is safe (`State.safe_resetBlock`), and `NCONN` is 1 more than a number below 16. -/
theorem invariantHoldsAtReset : Obligations.InvariantHoldsAtReset := by
  have hsafe : State.reset.Safe := resetBlock_reset ▸ State.safe_resetBlock State.reset
  have hnconn : State.reset.nconn = Config.lastConnection.val + 1 := List.length_replicate
  have hcount : State.reset.ConnectionCountLegal := by
    rw [State.ConnectionCountLegal, hnconn]
    exact ⟨Nat.le_add_left 1 _, Config.lastConnection.isLt⟩
  exact (inv_iff _).mpr ⟨hsafe, hcount⟩

end Sys2Proof.Machine
end

/-! ## The events of the host -/

section
namespace Sys2Proof.Machine

/-- Settles O54: an event of the host answers, and before that writes at most one connection record and the slot. -/
theorem hostEventsLeaveTheSyncState : Obligations.HostEventsLeaveTheSyncState := by
  intro i s t h hp ht
  rcases host_event_shape h hp ht with ⟨v, rfl⟩ | ⟨c, k, k', v, -, -, rfl | rfl | ⟨x, -, rfl⟩⟩ <;> simp

end Sys2Proof.Machine
end

/-! ## The writers of `sinkTrace` and `byteWasSent` -/

section
namespace Sys2Proof.Machine

@[simp] theorem sendSlot_sinkTrace (s : State) (x : Slot) :
    (s.sendSlot x).sinkTrace = s.sinkTrace ++ [⟨s.pulseCount, sinkByte s.params x.frame⟩] := rfl

@[simp] theorem sendSlot_slot (s : State) (x : Slot) : (s.sendSlot x).slot = none := rfl

/-- A tick sends nothing (R140). -/
@[simp] theorem tick_sinkTrace (s : State) : s.tick.sinkTrace = s.sinkTrace := by
  rcases tick_cases s with
    ⟨-, h⟩ | ⟨-, ⟨-, -, h⟩ | ⟨-, -, h⟩ | ⟨-, h⟩ | ⟨-, h⟩ | ⟨-, -, -, h⟩⟩ <;>
    simp [h, cycleOk_eq, pulseCountError_eq, parityWindow_eq]

/-- Settles O25, event by event: a pulse sends or only counts, a tick and the events of the host send nothing. -/
theorem onlyAMatchingPulseSends : Obligations.OnlyAMatchingPulseSends := by
  intro i s t h
  by_cases hp : i = .pulse
  · subst hp
    cases h
    rcases pulse_cases s with ⟨x, hslot, harmed, hcount, hs⟩ | ⟨-, hs⟩ <;> rw [hs]
    · exact .inr ⟨rfl, x, hslot, harmed, hcount, by simp [hcount], rfl⟩
    · exact .inl rfl
  by_cases ht : i = .tick
  · subst ht
    cases h
    exact .inl (tick_sinkTrace s)
  · obtain ⟨-, -, -, -, -, -, -, htrace⟩ := hostEventsLeaveTheSyncState i s t h hp ht
    exact .inl htrace

/-- A flag that is kept is neither set nor cleared, whatever is asked of an event that does so. -/
theorem changes_of_kept {old new : Bool} {Setter Clearer : Prop} (h : new = old) :
    (old = false → new = true → Setter) ∧ (old = true → new = false → Clearer) := by
  subst h
  exact ⟨fun hf ht => absurd (hf.symm.trans ht) Bool.false_ne_true,
    fun ht hf => absurd (hf.symm.trans ht) Bool.false_ne_true⟩

/-- Window 7 follows window 6 only: the saturated window 8 follows 7 and itself (R142). -/
theorem nextWindow_eq_seven_iff (s : State) : s.nextWindow = 7 ↔ s.idleWindowCount = 6#8 := by
  have hnext : s.nextWindow = min (s.idleWindowCount.toNat + 1) 8 := rfl
  rw [hnext, ← BitVec.toNat_inj, show (6#8 : Byte).toNat = 6 from rfl]
  omega

/-- A tick clears `byteWasSent` at window 7 and leaves it alone at any other (R149). -/
theorem tick_byteWasSent_cases (s : State) :
    (s.pulseCount = s.prevPulseCount ∧ s.nextWindow = 7 ∧ s.tick.byteWasSent = false) ∨
      s.tick.byteWasSent = s.byteWasSent := by
  rcases tick_cases s with
    ⟨-, h⟩ | ⟨hsame, ⟨-, -, h⟩ | ⟨-, -, h⟩ | ⟨-, h⟩ | ⟨h7, h⟩ | ⟨-, -, -, h⟩⟩ <;> rw [h]
  · exact .inr rfl
  · exact .inr (by simp [cycleOk_eq])
  · exact .inr (by simp [pulseCountError_eq])
  · exact .inr (by simp [parityWindow_eq])
  · exact .inl ⟨hsame, h7, rfl⟩
  · exact .inr rfl

/-- A pulse that sets `byteWasSent` sends the byte of an armed slot (R160, R161). -/
theorem pulse_sets_byteWasSent {s : State} (hold : s.byteWasSent = false) (hnew : s.pulse.byteWasSent = true) :
    s.slotArmed = true ∧ s.slot.isSome = true ∧ s.pulse.sinkTrace ≠ s.sinkTrace := by
  rcases pulse_cases s with ⟨x, hslot, harmed, -, hs⟩ | ⟨-, hs⟩ <;> rw [hs] at hnew ⊢
  · exact ⟨harmed, by simp [hslot], by simp⟩
  · simp [hold] at hnew

/-- A pulse that clears `byteWasSent` is the first of its cycle (R161). -/
theorem pulse_clears_byteWasSent {s : State} (hold : s.byteWasSent = true) (hnew : s.pulse.byteWasSent = false) :
    s.pulseCount = 0#16 := by
  rcases pulse_cases s with ⟨x, -, -, -, hs⟩ | ⟨-, hs⟩ <;> rw [hs] at hnew
  · cases hnew
  · simpa [hold] using hnew

/-- Settles O26, event by event: a pulse sets or clears, a tick only clears, the events of the host do neither. -/
theorem byteWasSentHasTheseWriters : Obligations.ByteWasSentHasTheseWriters := by
  intro i s t h
  by_cases hp : i = .pulse
  · subst hp
    cases h
    exact ⟨fun hold hnew => ⟨rfl, pulse_sets_byteWasSent hold hnew⟩,
      fun hold hnew => .inl ⟨rfl, pulse_clears_byteWasSent hold hnew⟩⟩
  by_cases ht : i = .tick
  · subst ht
    cases h
    rcases tick_byteWasSent_cases s with ⟨hsame, h7, hclear⟩ | hkeep
    · exact ⟨fun _ hnew => absurd hnew (by simp [hclear]),
        fun _ _ => .inr ⟨rfl, hsame, (nextWindow_eq_seven_iff s).mp h7⟩⟩
    · exact changes_of_kept hkeep
  · obtain ⟨-, -, -, -, -, -, hkeep, -⟩ := hostEventsLeaveTheSyncState i s t h hp ht
    exact changes_of_kept hkeep

end Sys2Proof.Machine
end

/-! ## The writers of a connection's `feedbackRequested` -/

section
namespace Sys2Proof.Machine

theorem connAt_congr {s t : State} (h : t.conns = s.conns) (c : ConnId) : t.connAt c = s.connAt c := by
  rw [State.connAt, State.connAt, h]

/-- Reading the record that was written, whatever else was written before it. -/
theorem eq_of_connAt_setConn {s u : State} {c : ConnId} {k k₁ k' : Connection} (hk : s.connAt c = some k)
    (hk' : (u.setConn c k₁).connAt c = some k') (hu : u.conns = s.conns) : k' = k₁ := by
  obtain ⟨hlt, -⟩ := (connAt_eq_some s c k).mp hk
  rw [State.connAt, State.setConn_conns, hu, List.getElem?_set_self hlt] at hk'
  exact (Option.some.inj hk').symm

/-- Reading a record other than the one written. -/
theorem connAt_set_of_ne {s t : State} {c d : ConnId} {k' : Connection} (hne : d ≠ c)
    (ht : t.conns = s.conns.set d.toNat k') : t.connAt c = s.connAt c := by
  rw [State.connAt, ht, List.getElem?_set_ne (mt BitVec.eq_of_toNat_eq hne)]
  rfl

/-- An event leaves the record of a connection it is not addressed to (R61). -/
theorem exec_connAt_of_conn_ne {i : Instr} {s t : State} {c : ConnId} (h : exec i s = .next t) (hc : i.conn ≠ some c) :
    t.connAt c = s.connAt c := by
  by_cases hp : i = .pulse
  · subst hp
    cases h
    exact connAt_congr (pulse_conns s) c
  by_cases ht : i = .tick
  · subst ht
    cases h
    exact connAt_congr (tick_conns s) c
  rcases host_event_shape h hp ht with ⟨v, rfl⟩ | ⟨d, k, k', v, hd, -, hshape⟩
  · rfl
  · have hne : d ≠ c := fun hdc => hc (hdc ▸ hd)
    have hconns : t.conns = s.conns.set d.toNat k' := by
      rcases hshape with rfl | rfl | ⟨x, -, rfl⟩ <;> simp
    exact connAt_set_of_ne hne hconns

section
variable {s : State} {c : ConnId} {k k' : Connection}

@[simp] theorem respond_connAt (s : State) (v : Byte) (c : ConnId) : (s.respond v).connAt c = s.connAt c := rfl

/-- A handoff keeps the request, whether it takes place or not (R127 to R130). -/
theorem handoffTo_feedbackRequested {n : ConnState} (hk : s.connAt c = some k)
    (hk' : (s.handoffTo c k n).connAt c = some k') : k'.feedbackRequested = k.feedbackRequested := by
  rcases handoffTo_cases s c k n with ⟨f, q, -, -, -, -, hs⟩ | ⟨-, hs⟩ <;> rw [hs] at hk'
  · obtain rfl := eq_of_connAt_setConn hk hk' rfl
    rfl
  · rw [hk] at hk'
    cases hk'
    rfl

/-- The request after a poll: cleared without synchronisation (R124), raised on leaving `Unsynchronized` (R125), else
kept. -/
theorem poll_feedbackRequested (hk : s.connAt c = some k) (hk' : (s.poll c k).connAt c = some k') :
    k'.feedbackRequested = (s.signalIsOk && (k.state == .unsynchronized || k.feedbackRequested)) := by
  rcases poll_cases s c k with
    ⟨hlost, hs⟩ | ⟨hok, ⟨hst, hs⟩ | ⟨hst, -, hs⟩ | ⟨hst, -, hs⟩ | ⟨hst, hs⟩ | ⟨hst, hs⟩⟩ <;> rw [hs] at hk'
  · obtain rfl := eq_of_connAt_setConn hk hk' (releaseClaim_conns s k)
    simp [hlost, desynchronised]
  · obtain rfl := eq_of_connAt_setConn hk hk' rfl
    simp [hok, hst]
  · rw [hk] at hk'
    cases hk'
    simp [hok, hst]
  · obtain rfl := eq_of_connAt_setConn hk hk' rfl
    simp [hok, hst]
  · simp [handoffTo_feedbackRequested hk hk', hok, hst]
  · rcases hst with hst | hst <;> simp [handoffTo_feedbackRequested hk hk', hok, hst]

/-- What an event can do to the request of connection `c` (R34, R39): keep it, clear it by one of three events, or
raise it by a poll. -/
theorem exec_feedbackRequested_cases {i : Instr} {t : State} (h : exec i s = .next t) (hk : s.connAt c = some k)
    (hk' : t.connAt c = some k') :
    k'.feedbackRequested = k.feedbackRequested ∨
      (k'.feedbackRequested = false ∧
        ((∃ x, i = .req8 c x) ∨ (∃ a d f, i = .cfg c a d f) ∨ (i = .poll c ∧ s.signalIsOk = false))) ∨
      (k'.feedbackRequested = true ∧ i = .poll c ∧ s.signalIsOk = true ∧ k.state = .unsynchronized) := by
  by_cases hc : i.conn = some c
  · cases i with
    | poll d =>
      cases hc
      cases h
      rw [onConnection_some _ _ _ _ hk, respond_connAt] at hk'
      have hreq := poll_feedbackRequested hk hk'
      cases hok : s.signalIsOk
      · exact .inr (.inl ⟨by simp [hreq, hok], .inr (.inr ⟨rfl, rfl⟩)⟩)
      · by_cases hst : k.state = .unsynchronized
        · exact .inr (.inr ⟨by simp [hreq, hok, hst], rfl, rfl, hst⟩)
        · exact .inl (by simp [hreq, hok, hst])
    | cfg d a dt f =>
      cases hc
      cases h
      rw [onConnection_some _ _ _ _ hk, respond_connAt] at hk'
      obtain rfl := eq_of_connAt_setConn hk hk' (releaseClaim_conns s k)
      exact .inr (.inl ⟨rfl, .inr (.inl ⟨a, dt, f, rfl⟩)⟩)
    | req4 d p v =>
      cases hc
      cases h
      rw [onConnection_some _ _ _ _ hk, respond_connAt] at hk'
      obtain rfl := eq_of_connAt_setConn hk hk' rfl
      exact .inl (enqueue_feedbackRequested _ _)
    | req8 d x =>
      cases hc
      cases h
      rw [onConnection_some _ _ _ _ hk, respond_connAt] at hk'
      obtain rfl := eq_of_connAt_setConn hk hk' rfl
      exact .inr (.inl ⟨rfl, .inl ⟨x, rfl⟩⟩)
    | rdfb d =>
      cases hc
      cases h
      rw [onConnection_some _ _ _ _ hk, respond_connAt, hk] at hk'
      cases hk'
      exact .inl rfl
    | _ => cases hc
  · rw [exec_connAt_of_conn_ne h hc, hk] at hk'
    cases hk'
    exact .inl rfl

end

/-- Settles O52: of the three things an event can do to the request, one sets it and one clears it. -/
theorem feedbackRequestedHasTheseWriters : Obligations.FeedbackRequestedHasTheseWriters := by
  intro i s t c k k' h hk hk'
  rcases exec_feedbackRequested_cases h hk hk' with hkeep | ⟨hclear, hi⟩ | ⟨hset, hi⟩
  · exact changes_of_kept hkeep
  · exact ⟨fun _ hnew => absurd hnew (by simp [hclear]), fun _ _ => hi⟩
  · exact ⟨fun _ _ => hi, fun _ hnew => absurd hnew (by simp [hset])⟩

end Sys2Proof.Machine
end

/-! ## What fills the slot -/

section
namespace Sys2Proof.Machine

/-- A handoff fills an empty slot with the oldest entry of a connection whose address is in range (R130). -/
theorem handoffTo_slot {s : State} {c : ConnId} {k : Connection} {n : ConnState} {x : Slot}
    (h : (s.handoffTo c k n).slot = some x) :
    s.slot = some x ∨
      (s.slot = none ∧ x.addr = k.address ∧ 1 ≤ k.address.toNat ∧ k.address.toNat ≤ 128 ∧
        ∃ q, k.queue = x.frame :: q) := by
  rcases handoffTo_cases s c k n with ⟨f, q, hq, hslot, hlow, hhigh, hs⟩ | ⟨-, hs⟩ <;> rw [hs] at h
  · cases h
    exact .inr ⟨hslot, rfl, hlow, hhigh, q, hq⟩
  · exact .inl h

/-- Releasing a claim puts nothing into the slot. -/
theorem releaseClaim_slot {s : State} {k : Connection} {x : Slot} (h : (s.releaseClaim k).slot = some x) :
    s.slot = some x := by
  rcases releaseClaim_cases s k with ⟨-, hs⟩ | ⟨-, hs⟩ <;> rw [hs] at h
  · cases h
  · exact h

/-- The byte in the slot after a poll was there before, or is the oldest entry of the connection, whose address is in
range (R123, R130). -/
theorem poll_slot {s : State} {c : ConnId} {k : Connection} {x : Slot} (h : (s.poll c k).slot = some x) :
    s.slot = some x ∨
      (s.slot = none ∧ x.addr = k.address ∧ 1 ≤ k.address.toNat ∧ k.address.toNat ≤ 128 ∧
        ∃ q, k.queue = x.frame :: q) := by
  rcases poll_cases s c k with
    ⟨-, hs⟩ | ⟨-, ⟨-, hs⟩ | ⟨-, -, hs⟩ | ⟨-, -, hs⟩ | ⟨-, hs⟩ | ⟨-, hs⟩⟩ <;> rw [hs] at h
  · exact .inl (releaseClaim_slot h)
  · exact .inl h
  · exact .inl h
  · exact .inl h
  · exact handoffTo_slot h
  · exact handoffTo_slot h

/-- Settles O46: a poll that fills the slot needs an address in range. -/
theorem addressOutOfRangeNeverFillsTheSlot : Obligations.AddressOutOfRangeNeverFillsTheSlot := by
  intro s t c k x hk hrange h hx
  rw [exec_poll, onConnection_some _ _ _ _ hk] at h
  cases h
  rcases poll_slot hx with hold | ⟨-, -, hlow, hhigh, -⟩
  · exact hold
  · omega

end Sys2Proof.Machine
end

/-! ## The counts in a silence -/

section
namespace Sys2Proof.Machine

/-- A tick that enters window 3 zeroes the counts, and from a window of 3 or more it enters a tick finds two equal
counts, the remembered one 0 already (R40, R146). -/
theorem tick_counts_zero {s : State} (hsilence : s.SilenceHasZeroCopy) (hw : 3 ≤ s.tick.idleWindowCount.toNat) :
    s.tick.pulseCount = 0#16 ∧ s.tick.prevPulseCount = 0#16 := by
  have later (hsame : s.pulseCount = s.prevPulseCount) (hn : 3 ≤ s.nextWindow) (h3 : s.nextWindow ≠ 3) :
      s.pulseCount = 0#16 ∧ s.prevPulseCount = 0#16 := by
    have hnext : s.nextWindow = min (s.idleWindowCount.toNat + 1) 8 := rfl
    have hcopy : s.prevPulseCount = 0#16 := hsilence (by omega)
    exact ⟨hsame.trans hcopy, hcopy⟩
  rcases tick_cases s with
    ⟨-, hs⟩ | ⟨hsame, ⟨-, -, hs⟩ | ⟨-, -, hs⟩ | ⟨h5, hs⟩ | ⟨h7, hs⟩ | ⟨h3, -, -, hs⟩⟩ <;> rw [hs] at hw ⊢
  · exact absurd hw (by simp)
  · exact ⟨rfl, rfl⟩
  · exact ⟨rfl, rfl⟩
  · rw [parityWindow_eq]
    exact later hsame (by omega) (by omega)
  · exact later hsame (by omega) (by omega)
  · exact later hsame (by rwa [countWindow_toNat] at hw) h3

/-- Settles O58, from the part of the invariant that is about the remembered count. -/
theorem silenceLeavesBothCountsZero : Obligations.SilenceLeavesBothCountsZero := by
  intro s t hinv h hw
  obtain ⟨-, -, -, hsilence, -⟩ := hinv
  cases h
  exact tick_counts_zero hsilence hw

end Sys2Proof.Machine
end

/-! ## From a handoff to the boundary and out (`ARM_POLICY = Boundary`) -/

section
namespace Sys2Proof.Machine

/-! ### One event in the case that occurs -/

/-- The pulse whose number is the address of the armed slot sends, whole (R160). -/
theorem exec_pulse_of_match {s : State} {x : Slot} (hslot : s.slot = some x) (harmed : s.slotArmed = true)
    (hcount : s.pulseCount + 1#16 = x.addr.zeroExtend 16) :
    exec .pulse s = .next
      { s with
        pulseCount := x.addr.zeroExtend 16
        sinkTrace := s.sinkTrace ++ [⟨x.addr.zeroExtend 16, sinkByte s.params x.frame⟩]
        byteWasSent := true, slot := none, slotArmed := false, rsp := 0x00#8 } := by
  rcases pulse_cases s with ⟨y, hy, -, -, hs⟩ | ⟨hno, -⟩
  · obtain rfl : x = y := Option.some.inj (hslot.symm.trans hy)
    rw [exec_pulse, hs, ← hcount]
    rfl
  · exact absurd ⟨harmed, hcount⟩ (hno x hslot)

/-- A tick that saw pulses (R141). -/
theorem exec_tick_of_changed {s : State} (h : s.pulseCount ≠ s.prevPulseCount) :
    exec .tick s = .next (s.recordPulses.respond 0x00#8) := by
  rcases tick_cases s with ⟨-, hs⟩ | ⟨hsame, -⟩
  · rw [exec_tick, hs]
  · exact absurd hsame h

/-- A tick that enters window 2 counts it and does nothing else (R143). -/
theorem exec_tick_of_window_two {s : State} (hsame : s.pulseCount = s.prevPulseCount) (hw : s.nextWindow = 2) :
    exec .tick s = .next (s.countWindow.respond 0x00#8) := by
  rcases tick_cases s with
    ⟨hdiff, -⟩ | ⟨-, ⟨h3, -⟩ | ⟨h3, -⟩ | ⟨h5, -⟩ | ⟨h7, -⟩ | ⟨-, -, -, hs⟩⟩
  · exact absurd hsame hdiff
  · omega
  · omega
  · omega
  · omega
  · rw [exec_tick, hs]

/-- A tick that enters window 3 after 130 pulses (R144, R146). -/
theorem exec_tick_of_good_boundary {s : State} (hsame : s.pulseCount = s.prevPulseCount) (hw : s.nextWindow = 3)
    (hgood : s.pulseCount = 130#16) : exec .tick s = .next (s.countWindow.cycleOk.zeroCounts.respond 0x00#8) := by
  rcases tick_cases s with
    ⟨hdiff, -⟩ | ⟨-, ⟨-, -, hs⟩ | ⟨-, hbad, -⟩ | ⟨h5, -⟩ | ⟨h7, -⟩ | ⟨h3, -⟩⟩
  · exact absurd hsame hdiff
  · rw [exec_tick, hs]
  · exact absurd hgood hbad
  · omega
  · omega
  · exact absurd hw h3

/-- A handoff that takes place, whole (R127 to R130). -/
theorem handoffTo_of_ready {s : State} {c : ConnId} {k : Connection} {n : ConnState} {f : Byte} {q : List Byte}
    (hq : k.queue = f :: q) (hslot : s.slot = none) (hlow : 1 ≤ k.address.toNat) (hhigh : k.address.toNat ≤ 128) :
    s.handoffTo c k n = (s.fillSlot ⟨k.address, f⟩).setConn c { k with queue := q, state := n } := by
  rcases handoffTo_cases s c k n with ⟨f', q', hq', -, -, -, hs⟩ | ⟨hno, -⟩
  · obtain ⟨rfl, rfl⟩ := List.cons.inj (hq.symm.trans hq')
    exact hs
  · exact absurd ⟨by simp [hq], hslot, hlow, hhigh⟩ hno

/-- The state after a handoff of the entry `f`, with the queue `q` left: the slot is filled, and the connection goes to
its next state (R127 to R130). -/
def State.handedOver (s : State) (c : ConnId) (k : Connection) (f : Byte) (q : List Byte) : State :=
  (s.fillSlot ⟨k.address, f⟩).setConn c
    { k with queue := q, state := if k.state = .sendingNibble1 then .sendingNibble2 else .connected }

/-- A synchronised poll in one of the three states that hand off, with all that a handoff needs (R127 to R130). -/
theorem exec_poll_of_ready {s : State} {c : ConnId} {k : Connection} {f : Byte} {q : List Byte}
    (hk : s.connAt c = some k) (hok : s.signalIsOk = true) (hst : k.handsOff) (hq : k.queue = f :: q)
    (hslot : s.slot = none) (hlow : 1 ≤ k.address.toNat) (hhigh : k.address.toNat ≤ 128) :
    exec (.poll c) s = .next ((s.handedOver c k f q).respond 0x00#8) := by
  have hpoll : s.poll c k = s.handedOver c k f q := by
    rcases hst with hst | hst | hst <;>
      simp [State.poll, hok, State.pollSynchronised, hst, handoffTo_of_ready hq hslot hlow hhigh, State.handedOver]
  rw [exec_poll, onConnection_some _ _ _ _ hk, hpoll]

/-! ### Several events -/

theorem execAll_cons {i : Instr} {s t : State} (h : exec i s = .next t) (is : List Instr) :
    execAll (i :: is) s = execAll is t := by
  simp [execAll, h]

/-- The slot's byte does not go out in the next `n` pulses: the slot is empty, or not armed, or its address lies
further ahead. -/
def State.SilentFor (s : State) (n : Nat) : Prop :=
  ∀ x, s.slot = some x → s.slotArmed = true → s.pulseCount.toNat + n < x.addr.toNat

theorem State.SilentFor.pulse {s : State} {n : Nat} (h : s.SilentFor (n + 1)) : s.pulse = s.countPulse := by
  rcases pulse_cases s with ⟨x, hslot, harmed, hcount, -⟩ | ⟨-, hs⟩
  · have hahead := h x hslot harmed
    have hnat : (s.pulseCount.toNat + 1) % 65536 = x.addr.toNat % 65536 := by
      simpa using congrArg BitVec.toNat hcount
    have := x.addr.isLt
    omega
  · exact hs

theorem State.SilentFor.countPulse {s : State} {n : Nat} (h : s.SilentFor (n + 1)) : s.countPulse.SilentFor n := by
  intro x hslot harmed
  have hahead := h x hslot harmed
  have := x.addr.isLt
  have hnat : s.countPulse.pulseCount.toNat = (s.pulseCount.toNat + 1) % 65536 := by simp
  omega

/-- Pulses that send nothing count, and otherwise change at most `byteWasSent` and the response (R160, R161). -/
theorem execAll_pulses_silent {s : State} {n : Nat} (h : s.SilentFor n) :
    ∃ b v, execAll (pulses n) s =
      .next { s with pulseCount := s.pulseCount + BitVec.ofNat 16 n, byteWasSent := b, rsp := v } := by
  induction n generalizing s with
  | zero => exact ⟨s.byteWasSent, s.rsp, by simp [execAll]⟩
  | succ n ih =>
    have hfirst : exec .pulse s = .next (s.countPulse.respond 0x00#8) := by
      rw [exec_pulse, h.pulse]
    obtain ⟨b, v, hrest⟩ := ih (s := s.countPulse.respond 0x00#8) h.countPulse
    refine ⟨b, v, ?_⟩
    have hsum : s.pulseCount + 1#16 + BitVec.ofNat 16 n = s.pulseCount + BitVec.ofNat 16 (n + 1) := by
      rw [BitVec.add_assoc, Nat.add_comm n 1, BitVec.ofNat_add]
    rw [pulses_succ, execAll_cons hfirst, hrest, ← hsum]
    rfl

/-- An armed byte whose address lies ahead goes out on the pulse with that number: the pulses before it are silent
(R160). -/
theorem execAll_pulses_send {s : State} {x : Slot} (hslot : s.slot = some x) (harmed : s.slotArmed = true)
    (hahead : s.pulseCount.toNat < x.addr.toNat) :
    execAll (pulses (x.addr.toNat - s.pulseCount.toNat)) s = .next
      { s with
        pulseCount := x.addr.zeroExtend 16
        sinkTrace := s.sinkTrace ++ [⟨x.addr.zeroExtend 16, sinkByte s.params x.frame⟩]
        byteWasSent := true, slot := none, slotArmed := false, rsp := 0x00#8 } := by
  obtain ⟨n, hn⟩ := Nat.exists_eq_add_one.mpr (Nat.sub_pos_of_lt hahead)
  have hsilent : s.SilentFor n := by
    intro y hy _
    obtain rfl : x = y := Option.some.inj (hslot.symm.trans hy)
    omega
  obtain ⟨b, v, hrun⟩ := execAll_pulses_silent hsilent
  have hcount : s.pulseCount + BitVec.ofNat 16 n + 1#16 = x.addr.zeroExtend 16 := by
    have := x.addr.isLt
    apply BitVec.eq_of_toNat_eq
    simp only [BitVec.toNat_add, BitVec.toNat_ofNat, BitVec.truncate_eq_setWidth, BitVec.toNat_setWidth]
    omega
  rw [hn, pulses_succ_last, execAll_append _ _ _ _ hrun]
  refine execAll_cons (exec_pulse_of_match ?_ ?_ ?_) []
  · exact hslot
  · exact harmed
  · exact hcount

/-- The silence after a cycle of 130 pulses: the first tick sees them, the second does nothing, the third finds the
total good, arms an occupied slot and zeroes the counts (R141 to R146). -/
theorem execAll_silence_good {s : State} (hgood : s.pulseCount = 130#16) (hnew : s.prevPulseCount ≠ 130#16) :
    execAll (silence 3) s = .next
      { s with
        signalIsOk := true, idleWindowCount := 3#8, pulseCount := 0#16, prevPulseCount := 0#16
        slotArmed := s.slotArmed || s.slot.isSome, rsp := 0x00#8 } := by
  have hdiff : s.pulseCount ≠ s.prevPulseCount := hgood ▸ hnew.symm
  calc execAll (silence 3) s
    _ = execAll (silence 2) (s.recordPulses.respond 0x00#8) :=
      execAll_cons (exec_tick_of_changed hdiff) _
    _ = execAll (silence 1) ((s.recordPulses.respond 0x00#8).countWindow.respond 0x00#8) :=
      execAll_cons (exec_tick_of_window_two rfl rfl) _
    _ = execAll []
        (((s.recordPulses.respond 0x00#8).countWindow.respond 0x00#8).countWindow.cycleOk.zeroCounts.respond 0x00#8) :=
      execAll_cons (exec_tick_of_good_boundary rfl rfl (by simpa using hgood)) _
    _ = _ := by
      rw [cycleOk_eq]
      rfl

/-- The rest of a cycle of 130 pulses and its silence, with an unarmed byte in the slot: nothing is sent, and the byte
is armed for the next cycle (R28, R144). -/
theorem execAll_cycle_arms {s : State} {x : Slot} (hslot : s.slot = some x) (hunarmed : s.slotArmed = false)
    (hcount : s.pulseCount.toNat ≤ 130) (hnew : s.prevPulseCount ≠ 130#16) :
    ∃ t, execAll (pulses (130 - s.pulseCount.toNat) ++ silence 3) s = .next t ∧ t.sinkTrace = s.sinkTrace ∧
      t.slot = some x ∧ t.slotArmed = true ∧ t.signalIsOk = true ∧ t.pulseCount = 0#16 ∧ t.params = s.params := by
  have hsilent : s.SilentFor (130 - s.pulseCount.toNat) := fun _ _ harmed => absurd harmed (by simp [hunarmed])
  obtain ⟨b, v, hpulses⟩ := execAll_pulses_silent hsilent
  have htotal : s.pulseCount + BitVec.ofNat 16 (130 - s.pulseCount.toNat) = 130#16 := by
    apply BitVec.eq_of_toNat_eq
    simp only [BitVec.toNat_add, BitVec.toNat_ofNat]
    omega
  rw [execAll_append _ _ _ _ hpulses, htotal]
  refine ⟨_, execAll_silence_good ?_ ?_, rfl, hslot, ?_, rfl, rfl, rfl⟩
  · rfl
  · exact hnew
  · simp [hslot]

/-- Settles O60: the handoff leaves the slot unarmed, the rest of the cycle arms it, and from count 0 its address lies
ahead. -/
theorem handedOverByteWaitsForTheBoundary : Obligations.HandedOverByteWaitsForTheBoundary := by
  intro s c k f q hk hok hst hq hslot hlow hhigh hcount hnew hboundary
  have hpoll := exec_poll_of_ready hk hok hst hq hslot hlow hhigh
  have hunarmed : armedOnFill s.params = false := by simp [armedOnFill, hboundary]
  obtain ⟨t, hcycle, htrace, hheld, harmed, hok', hzero, hparams⟩ :=
    execAll_cycle_arms (s := (s.handedOver c k f q).respond 0x00#8) rfl hunarmed hcount hnew
  have hsend := execAll_pulses_send hheld harmed (by rw [hzero]; exact hlow)
  rw [hzero] at hsend
  refine ⟨t, _, (execAll_cons hpoll _).trans hcycle, htrace, hheld, harmed, hok', hsend, ?_, rfl, rfl, rfl, rfl⟩
  rw [htrace, hparams]
  rfl

end Sys2Proof.Machine
end

/-! # Proofs: what an event touches, and the order of events

The parts: the connections an event is not addressed to (R61, R198), what fills the slot (R69, R130), requests that
commute (R67), and the strobes of one clock (R187). -/

/-! ## The connections an event is not addressed to -/

section
namespace Sys2Proof.Machine

/-- Settles O53: PULSE and TICK write no record, an event of the host writes at most the one it is addressed to
(`exec_connAt_of_conn_ne`). -/
theorem otherConnectionsAreUntouched : Obligations.OtherConnectionsAreUntouched :=
  fun _ _ _ _ h hc => exec_connAt_of_conn_ne h hc

end Sys2Proof.Machine
end

/-! ## The slot: the events that keep or empty it, and the one that fills it -/

section
namespace Sys2Proof.Machine

section
variable {s : State} {c : ConnId} {x : Slot}

/-- A pulse puts nothing into the slot (R160). -/
theorem pulse_slot (h : s.pulse.slot = some x) : s.slot = some x := by
  rcases pulse_cases s with ⟨y, -, -, -, hs⟩ | ⟨-, hs⟩ <;> rw [hs] at h
  · cases h
  · exact h

/-- A tick may arm the slot and leaves what it holds (R140, R144). -/
@[simp] theorem tick_slot (s : State) : s.tick.slot = s.slot := by
  rcases tick_cases s with
    ⟨-, h⟩ | ⟨-, ⟨-, -, h⟩ | ⟨-, -, h⟩ | ⟨-, h⟩ | ⟨-, h⟩ | ⟨-, -, -, h⟩⟩ <;>
    simp [h, cycleOk_eq, pulseCountError_eq, parityWindow_eq]

/-- The slot after an event addressed to a connection is the slot before it, or the one its effect on that connection
leaves. -/
theorem onConnection_slot {f : Connection → State} (h : (s.onConnection c f).slot = some x) :
    s.slot = some x ∨ ∃ k, s.connAt c = some k ∧ (f k).slot = some x := by
  rcases onConnection_cases s c f with ⟨k, hk, hs⟩ | ⟨-, hs⟩ <;> rw [hs] at h
  · exact .inr ⟨k, hk, h⟩
  · exact .inl h

theorem onConnection_slot_of_kept {f : Connection → State} (h : (s.onConnection c f).slot = some x)
    (hf : ∀ k, (f k).slot = some x → s.slot = some x) : s.slot = some x := by
  rcases onConnection_slot h with hold | ⟨k, -, hk⟩
  · exact hold
  · exact hf k hk

/-- A poll without synchronisation releases a claim at most, and puts nothing into the slot (R124). -/
theorem poll_slot_of_desynchronised {k : Connection} (hok : s.signalIsOk = false) (h : (s.poll c k).slot = some x) :
    s.slot = some x := by
  rcases poll_cases s c k with ⟨-, hs⟩ | ⟨hok', -⟩
  · rw [hs] at h
    exact releaseClaim_slot h
  · exact absurd (hok.symm.trans hok') Bool.false_ne_true

/-- Of all events only a poll, of a connection that exists, can leave a byte in the slot that was not there before
(R69). -/
theorem exec_slot_cases {i : Instr} {t : State} (h : exec i s = .next t) (hx : t.slot = some x) :
    s.slot = some x ∨ ∃ c k, i = .poll c ∧ s.connAt c = some k ∧ (s.poll c k).slot = some x := by
  cases i with
  | pulse => cases h; exact .inl (pulse_slot hx)
  | tick => cases h; exact .inl (tick_slot s ▸ hx)
  | poll c =>
    cases h
    rcases onConnection_slot hx with hold | ⟨k, hk, hpoll⟩
    · exact .inl hold
    · exact .inr ⟨c, k, rfl, hk, hpoll⟩
  | cfg c a d f => cases h; exact .inl (onConnection_slot_of_kept hx fun _ hcfg => releaseClaim_slot hcfg)
  | req4 c p v => cases h; exact .inl (onConnection_slot_of_kept hx fun _ hkept => hkept)
  | req8 c b => cases h; exact .inl (onConnection_slot_of_kept hx fun _ hkept => hkept)
  | rdfb c => cases h; exact .inl (onConnection_slot_of_kept hx fun _ hkept => hkept)
  | rdok => cases h; exact .inl hx
  | rdpar => cases h; exact .inl hx
  | rdpce => cases h; exact .inl hx
  | frameSwLo p d => cases h; exact .inl hx
  | frameSwHi p d => cases h; exact .inl hx
  | frameFbLo p d => cases h; exact .inl hx
  | frameFbHi p d => cases h; exact .inl hx

end

/-- Settles O45: a byte that was not in the slot before came in by a poll (`exec_slot_cases`), by a handoff into the
empty slot (`poll_slot`), and not without synchronisation (`poll_slot_of_desynchronised`). -/
theorem slotIsFilledOnlyWhenEmpty : Obligations.SlotIsFilledOnlyWhenEmpty := by
  intro i s t y h hy
  rcases exec_slot_cases h hy with hold | ⟨c, k, hi, hk, hpoll⟩
  · exact .inl hold
  · rcases poll_slot hpoll with hold | ⟨hempty, haddr, hlow, hhigh, q, hq⟩
    · exact .inl hold
    · cases hok : s.signalIsOk
      · exact .inl (poll_slot_of_desynchronised hok hpoll)
      · exact .inr ⟨hempty, rfl, c, k, q, hi, hk, hq, haddr, haddr ▸ hlow, haddr ▸ hhigh⟩

end Sys2Proof.Machine
end

/-! ## Requests of two connections -/

section
namespace Sys2Proof.Machine

/-- An event that rewrites the record it is addressed to and answers 0 modifies one entry of the list of records; with
no such record it changes none (R90). -/
theorem onConnection_setConn (s : State) (c : ConnId) (f : Connection → Connection) :
    (s.onConnection c fun k => (s.setConn c (f k)).respond 0x00#8) =
      { s with conns := s.conns.modify c.toNat f, rsp := 0x00#8 } := by
  rcases onConnection_cases s c fun k => (s.setConn c (f k)).respond 0x00#8 with ⟨k, hk, hs⟩ | ⟨hk, hs⟩ <;> rw [hs]
  · have hmodify : s.conns.modify c.toNat f = s.conns.set c.toNat (f k) := by
      rw [List.modify_eq_set_getElem?, show s.conns[c.toNat]? = some k from hk]
      rfl
    rw [hmodify]
    rfl
  · rw [List.modify_eq_self ((connAt_eq_none s c).mp hk)]
    rfl

/-- A request, whole: it modifies the record it is addressed to, by the parameters and that record alone (R121,
R122). -/
theorem exec_of_isRequestOf {i : Instr} {c : ConnId} (h : isRequestOf i c) :
    ∃ f : Params → Connection → Connection, ∀ s : State,
      exec i s = .next { s with conns := s.conns.modify c.toNat (f s.params), rsp := 0x00#8 } := by
  rcases h with ⟨pos, v, rfl⟩ | ⟨x, rfl⟩
  · exact ⟨fun p k => enqueue k (encNib p pos v k.deviceType), fun s => congrArg _ (onConnection_setConn s c _)⟩
  · exact ⟨fun p k =>
      { enqueue (enqueue k (encByte p x k.deviceType).1) (encByte p x k.deviceType).2 with feedbackRequested := false },
      fun s => congrArg _ (onConnection_setConn s c _)⟩

/-- Settles O55: modifications of two different entries of a list commute. -/
theorem requestsOfDifferentConnectionsCommute : Obligations.RequestsOfDifferentConnectionsCommute := by
  intro i j c d s hi hj hcd
  obtain ⟨f, hf⟩ := exec_of_isRequestOf hi
  obtain ⟨g, hg⟩ := exec_of_isRequestOf hj
  have hne : c.toNat ≠ d.toNat := mt BitVec.eq_of_toNat_eq hcd
  simp only [execAll, hf, hg, List.modify_modify_ne (f s.params) (g s.params) s.conns hne]

end Sys2Proof.Machine
end

/-! ## The strobes of one clock

What has arrived and waits is read and written by `step` alone: no event looks at it (`exec_withArrivals`). A clock's
strobes, taken one a step, are therefore the same events run one after the other (`run_of_names`). -/

section
namespace Sys2Proof.Machine

/-- The state with other items waiting. -/
def State.withArrivals (s : State) (l : List Arrival) : State := { s with arrivals := l }

theorem withArrivals_of_arrivals_eq {s : State} {l : List Arrival} (h : s.arrivals = l) : s.withArrivals l = s := by
  subst h
  rfl

section
variable (s : State) (l : List Arrival)

theorem withArrivals_ite (p : Prop) [Decidable p] (t : State) :
    (if p then s else t).withArrivals l = if p then s.withArrivals l else t.withArrivals l :=
  apply_ite (State.withArrivals · l) p s t

theorem pulse_withArrivals : (s.withArrivals l).pulse = s.pulse.withArrivals l := by
  have hslot : (s.withArrivals l).countPulse.slot = s.countPulse.slot := rfl
  unfold State.pulse
  simp only [hslot]
  cases s.countPulse.slot with
  | none => rfl
  | some x =>
    simp only [withArrivals_ite]
    rfl

theorem boundaryWindow_withArrivals : (s.withArrivals l).boundaryWindow = s.boundaryWindow.withArrivals l := by
  have hzero (t : State) : t.zeroCounts.withArrivals l = (t.withArrivals l).zeroCounts := rfl
  simp only [State.boundaryWindow, cycleOk_eq, pulseCountError_eq, hzero, withArrivals_ite]
  rfl

theorem parityWindow_withArrivals : (s.withArrivals l).parityWindow = s.parityWindow.withArrivals l := by
  rw [parityWindow_eq, parityWindow_eq]
  rfl

theorem windowAction_withArrivals (n : Nat) : (s.withArrivals l).windowAction n = (s.windowAction n).withArrivals l := by
  simp only [State.windowAction, withArrivals_ite, boundaryWindow_withArrivals, parityWindow_withArrivals]
  rfl

theorem tick_withArrivals : (s.withArrivals l).tick = s.tick.withArrivals l := by
  simp only [State.tick, withArrivals_ite, ← windowAction_withArrivals]
  rfl

theorem releaseClaim_withArrivals (k : Connection) :
    (s.withArrivals l).releaseClaim k = (s.releaseClaim k).withArrivals l := by
  simp only [State.releaseClaim, withArrivals_ite]
  rfl

theorem enterCascade_withArrivals (c : ConnId) (k : Connection) :
    (s.withArrivals l).enterCascade c k = (s.enterCascade c k).withArrivals l := by
  rw [State.enterCascade, releaseClaim_withArrivals]
  rfl

theorem configure_withArrivals (c : ConnId) (k : Connection) (a : Byte) (t : DeviceType) (f : Byte) :
    (s.withArrivals l).configure c k a t f = (s.configure c k a t f).withArrivals l := by
  rw [State.configure, releaseClaim_withArrivals]
  rfl

theorem handoffTo_withArrivals (c : ConnId) (k : Connection) (n : ConnState) :
    (s.withArrivals l).handoffTo c k n = (s.handoffTo c k n).withArrivals l := by
  have hcan : (s.withArrivals l).canHandoff k = s.canHandoff k := rfl
  cases h : s.canHandoff k <;> simp only [State.handoffTo, State.tryHandoff, hcan, h] <;> rfl

theorem pollSynchronised_withArrivals (c : ConnId) (k : Connection) :
    (s.withArrivals l).pollSynchronised c k = (s.pollSynchronised c k).withArrivals l := by
  cases h : k.state <;> simp only [State.pollSynchronised, h]
  case unsynchronized => rfl
  case feedbackNeeded =>
    rw [withArrivals_ite]
    rfl
  case sendingNibble1 => exact handoffTo_withArrivals s l c k _
  case sendingNibble2 => exact handoffTo_withArrivals s l c k _
  case connected => exact handoffTo_withArrivals s l c k _

theorem poll_withArrivals (c : ConnId) (k : Connection) :
    (s.withArrivals l).poll c k = (s.poll c k).withArrivals l := by
  simp only [State.poll, withArrivals_ite, ← pollSynchronised_withArrivals, ← enterCascade_withArrivals]
  rfl

/-- An event addressed to a connection does not look at what waits if its effect on the connection does not. -/
theorem onConnection_withArrivals (c : ConnId) {f g : Connection → State} (h : ∀ k, g k = (f k).withArrivals l) :
    (s.withArrivals l).onConnection c g = (s.onConnection c f).withArrivals l := by
  have hconn : (s.withArrivals l).connAt c = s.connAt c := rfl
  rcases onConnection_cases s c f with ⟨k, hk, hs⟩ | ⟨hk, hs⟩ <;> rw [hs]
  · rw [onConnection_some _ _ _ _ (hconn.trans hk), h]
  · rw [onConnection_none _ _ _ (hconn.trans hk)]
    rfl

end

/-- Every event answers a next state, and neither reads nor writes what waits (R67, R220). -/
theorem exec_withArrivals (i : Instr) (s : State) :
    ∃ t, exec i s = .next t ∧ ∀ l, exec i (s.withArrivals l) = .next (t.withArrivals l) := by
  cases i with
  | pulse =>
    exact ⟨_, rfl, fun l => congrArg (fun u : State => Host.Outcome.next (u.respond 0x00#8)) (pulse_withArrivals s l)⟩
  | tick =>
    exact ⟨_, rfl, fun l => congrArg (fun u : State => Host.Outcome.next (u.respond 0x00#8)) (tick_withArrivals s l)⟩
  | poll c =>
    exact ⟨_, rfl, fun l => congrArg Host.Outcome.next (onConnection_withArrivals s l c fun k =>
      congrArg (State.respond · 0x00#8) (poll_withArrivals s l c k))⟩
  | cfg c a d f =>
    exact ⟨_, rfl, fun l => congrArg Host.Outcome.next (onConnection_withArrivals s l c fun k =>
      congrArg (State.respond · 0x00#8) (configure_withArrivals s l c k a d f))⟩
  | req4 c p v =>
    exact ⟨_, rfl, fun l => congrArg Host.Outcome.next (onConnection_withArrivals s l c fun _ => rfl)⟩
  | req8 c x =>
    exact ⟨_, rfl, fun l => congrArg Host.Outcome.next (onConnection_withArrivals s l c fun _ => rfl)⟩
  | rdfb c =>
    exact ⟨_, rfl, fun l => congrArg Host.Outcome.next (onConnection_withArrivals s l c fun _ => rfl)⟩
  | rdok => exact ⟨_, rfl, fun _ => rfl⟩
  | rdpar => exact ⟨_, rfl, fun _ => rfl⟩
  | rdpce => exact ⟨_, rfl, fun _ => rfl⟩
  | frameSwLo p d => exact ⟨_, rfl, fun _ => rfl⟩
  | frameSwHi p d => exact ⟨_, rfl, fun _ => rfl⟩
  | frameFbLo p d => exact ⟨_, rfl, fun _ => rfl⟩
  | frameFbHi p d => exact ⟨_, rfl, fun _ => rfl⟩

/-- The arrival is a word of the event `i`. -/
def Arrival.Names (x : Arrival) (i : Instr) : Prop := ∃ c, x = .code c ∧ decode c = .ok i

/-- A run takes its first step where it begins. -/
theorem run_succ_of_step {M : Host.Core} {n : Nat} {s t : M.State} (h : M.step s = .next t) :
    M.run (n + 1) s = M.run n t := by
  simp [Host.Core.run, h]

/-- As many steps as there are words waiting run their events in order, each completely before the next (R67). -/
theorem run_of_names {l : List Arrival} {is : List Instr} (h : List.Forall₂ Arrival.Names l is) (s : State) :
    Sys2Proof.core.run l.length (s.withArrivals l) = execAll is (s.withArrivals []) := by
  induction h generalizing s with
  | nil => rfl
  | @cons x i l is hx _ ih =>
    obtain ⟨c, rfl, hdec⟩ := hx
    obtain ⟨t, -, ht⟩ := exec_withArrivals i s
    have hstep : Sys2Proof.core.step (s.withArrivals (.code c :: l)) = .next (t.withArrivals l) := by
      calc step (s.withArrivals (.code c :: l))
        _ = runCode c (s.withArrivals l) := step_of_code rfl
        _ = exec i (s.withArrivals l) := runCode_of_decode hdec _
        _ = .next (t.withArrivals l) := ht l
    rw [List.length_cons, run_succ_of_step hstep, ih t, execAll_cons (ht [])]

/-- The strobes of the pulse and the tick are words of PULSE and TICK, in this order (R187). -/
theorem strobes_arrivals_names (p k : Bool) {cmd : Option EventWord} {is : List Instr}
    (hcmd : List.Forall₂ Arrival.Names (Strobes.arrivals ⟨false, false, cmd⟩) is) :
    List.Forall₂ Arrival.Names (Strobes.arrivals ⟨p, k, cmd⟩)
      ((if p then [.pulse] else []) ++ (if k then [.tick] else []) ++ is) := by
  have hpulse : Arrival.Names (.code (encode .pulse)) .pulse := ⟨_, rfl, rfl⟩
  have htick : Arrival.Names (.code (encode .tick)) .tick := ⟨_, rfl, rfl⟩
  cases p <;> cases k
  · exact hcmd
  · exact .cons htick hcmd
  · exact .cons hpulse hcmd
  · exact .cons hpulse (.cons htick hcmd)

/-- A block with nothing waiting runs the events of one clock's strobes in their order (R187). -/
theorem run_strobe {s : State} (h : s.arrivals = []) {x : Strobes} {is : List Instr}
    (hx : List.Forall₂ Arrival.Names x.arrivals is) :
    Sys2Proof.core.run x.arrivals.length (s.strobe x) = execAll is s := by
  have hstrobe : s.strobe x = s.withArrivals x.arrivals := by
    rw [State.strobe, h, List.nil_append]
    rfl
  rw [hstrobe, run_of_names hx, withArrivals_of_arrivals_eq h]

/-- Settles O11: with a word on `cmd`, and with none. -/
theorem strobesOfOneClockAreTakenInOrder : Obligations.StrobesOfOneClockAreTakenInOrder := by
  constructor
  · intro s p k w i harr hdec
    have hword : Arrival.Names (.code (.evt32 w)) i := ⟨_, rfl, hdec⟩
    exact run_strobe harr (strobes_arrivals_names p k (.cons hword .nil))
  · intro s p k harr
    have hrun := run_strobe harr (strobes_arrivals_names p k (cmd := none) .nil)
    rwa [List.append_nil] at hrun

end Sys2Proof.Machine
end

/-! # Proofs: the two formats, the frames, and the judgement of a cycle

The parts: one equation of the decoder for each row (R86 to R90), the masks of the used bits (R89), the fields, the
parity and the mirror of an encoded frame (R81 to R86, R95, R101), the events that read or are ignored (R90, R131, R170
to R173), and the silence that ends a cycle (R93, R141 to R146). -/

/-! ## The decoder, row by row -/

section
namespace Sys2Proof

section
variable {w : EventWord}

theorem decodeEvent_pulse (h : opField w = 0x1#4) : decodeEvent w = .ok .pulse := by
  simp [decodeEvent, h]

theorem decodeEvent_tick (h : opField w = 0x2#4) : decodeEvent w = .ok .tick := by
  simp [decodeEvent, h]

theorem decodeEvent_poll (h : opField w = 0x3#4) : decodeEvent w = .ok (.poll (connField w)) := by
  simp [decodeEvent, h]

theorem decodeEvent_cfg (h : opField w = 0x4#4) : decodeEvent w =
    .ok (.cfg (connField w) (aField w) (DeviceType.ofBit ((bField w).getLsbD 0)) (cField w)) := by
  simp [decodeEvent, h]

theorem decodeEvent_req4 (h : opField w = 0x5#4) : decodeEvent w =
    .ok (.req4 (connField w) (Position.ofBit ((bField w).getLsbD 0)) ((cField w).extractLsb' 0 4)) := by
  simp [decodeEvent, h]

theorem decodeEvent_req8 (h : opField w = 0x6#4) : decodeEvent w = .ok (.req8 (connField w) (cField w)) := by
  simp [decodeEvent, h]

theorem decodeEvent_rdfb (h : opField w = 0x7#4) : decodeEvent w = .ok (.rdfb (connField w)) := by
  simp [decodeEvent, h]

theorem decodeEvent_rdok (h : opField w = 0x8#4) : decodeEvent w = .ok .rdok := by
  simp [decodeEvent, h]

theorem decodeEvent_rdpar (h : opField w = 0x9#4) : decodeEvent w = .ok .rdpar := by
  simp [decodeEvent, h]

theorem decodeEvent_rdpce (h : opField w = 0xA#4) : decodeEvent w = .ok .rdpce := by
  simp [decodeEvent, h]

/-- In each branch that names an event, `op` is one of 1 to 10. -/
theorem decodeEvent_reserved (h : (opField w).toNat = 0 ∨ 11 ≤ (opField w).toNat) :
    decodeEvent w = .error (.reservedOp (opField w)) := by
  unfold decodeEvent
  split <;> simp_all

end

/-- A value of `op` names one of the ten events or is reserved (R88, R90). -/
theorem op_cases (op : BitVec 4) :
    op = 0x1#4 ∨ op = 0x2#4 ∨ op = 0x3#4 ∨ op = 0x4#4 ∨ op = 0x5#4 ∨ op = 0x6#4 ∨ op = 0x7#4 ∨ op = 0x8#4 ∨
      op = 0x9#4 ∨ op = 0xA#4 ∨ (op.toNat = 0 ∨ 11 ≤ op.toNat) := by
  revert op; decide

theorem decodeEvent_ok_or_reserved (w : EventWord) :
    (∃ i, decodeEvent w = .ok i) ∨ ((opField w).toNat = 0 ∨ 11 ≤ (opField w).toNat) := by
  rcases op_cases (opField w) with h | h | h | h | h | h | h | h | h | h | h
  · exact .inl ⟨_, decodeEvent_pulse h⟩
  · exact .inl ⟨_, decodeEvent_tick h⟩
  · exact .inl ⟨_, decodeEvent_poll h⟩
  · exact .inl ⟨_, decodeEvent_cfg h⟩
  · exact .inl ⟨_, decodeEvent_req4 h⟩
  · exact .inl ⟨_, decodeEvent_req8 h⟩
  · exact .inl ⟨_, decodeEvent_rdfb h⟩
  · exact .inl ⟨_, decodeEvent_rdok h⟩
  · exact .inl ⟨_, decodeEvent_rdpar h⟩
  · exact .inl ⟨_, decodeEvent_rdpce h⟩
  · exact .inr h

section
variable {b : Byte}

theorem decodeFrame_swLo (h : b.extractLsb' 4 3 = 0b010#3) :
    decodeFrame b = .ok (.frameSwLo (b.getLsbD 7) (b.extractLsb' 0 4)) := by
  simp only [decodeFrame, h]

theorem decodeFrame_swHi (h : b.extractLsb' 4 3 = 0b011#3) :
    decodeFrame b = .ok (.frameSwHi (b.getLsbD 7) (b.extractLsb' 0 4)) := by
  simp only [decodeFrame, h]

theorem decodeFrame_fbLo (h : b.extractLsb' 4 3 = 0b100#3) :
    decodeFrame b = .ok (.frameFbLo (b.getLsbD 7) (b.extractLsb' 0 4)) := by
  simp only [decodeFrame, h]

theorem decodeFrame_fbHi (h : b.extractLsb' 4 3 = 0b101#3) :
    decodeFrame b = .ok (.frameFbHi (b.getLsbD 7) (b.extractLsb' 0 4)) := by
  simp only [decodeFrame, h]

/-- The type bits are the upper two of the bits 6:4 that the decoder looks at (R81). -/
theorem ttn_typeBits (b : Byte) : (b.extractLsb' 4 3).extractLsb' 1 2 = b.extractLsb' 5 2 := by
  revert b; decide

/-- In each branch that names a row, the type bits are 01 or 10. -/
theorem decodeFrame_reserved (h : b.extractLsb' 5 2 = 0b00#2 ∨ b.extractLsb' 5 2 = 0b11#2) :
    decodeFrame b = .error (.reservedTypeBits (b.extractLsb' 5 2)) := by
  rw [← ttn_typeBits] at h
  simp only [decodeFrame]
  split <;> simp_all

end

/-- The bits 6:4 of a byte name one of the four rows, or the type bits are reserved (R81, R86). -/
theorem ttn_cases (b : Byte) :
    b.extractLsb' 4 3 = 0b010#3 ∨ b.extractLsb' 4 3 = 0b011#3 ∨ b.extractLsb' 4 3 = 0b100#3 ∨
      b.extractLsb' 4 3 = 0b101#3 ∨ (b.extractLsb' 5 2 = 0b00#2 ∨ b.extractLsb' 5 2 = 0b11#2) := by
  revert b; decide

theorem decodeFrame_ok_or_reserved (b : Byte) :
    (∃ i, decodeFrame b = .ok i) ∨ (b.extractLsb' 5 2 = 0b00#2 ∨ b.extractLsb' 5 2 = 0b11#2) := by
  rcases ttn_cases b with h | h | h | h | h
  · exact .inl ⟨_, decodeFrame_swLo h⟩
  · exact .inl ⟨_, decodeFrame_swHi h⟩
  · exact .inl ⟨_, decodeFrame_fbLo h⟩
  · exact .inl ⟨_, decodeFrame_fbHi h⟩
  · exact .inr h

/-- Settles O1, by evaluating the decoder on the words. -/
theorem specWordsDecodeToTheirRows : Obligations.SpecWordsDecodeToTheirRows := by
  unfold Obligations.SpecWordsDecodeToTheirRows
  decide

/-- Settles O4: a code that is not reserved decodes, so it gives no error. -/
theorem reservedCodesAreRejected : Obligations.ReservedCodesAreRejected := by
  refine ⟨fun w => ⟨fun h => ?_, decodeEvent_reserved⟩, fun b => ⟨fun h => ?_, decodeFrame_reserved⟩⟩
  · exact (decodeEvent_ok_or_reserved w).resolve_left fun ⟨_, hok⟩ => by cases hok.symm.trans h
  · exact (decodeFrame_ok_or_reserved b).resolve_left fun ⟨_, hok⟩ => by cases hok.symm.trans h

/-! ## Decoding what the encoder writes -/

/-- A nibble in an operand byte is read back (R89). -/
@[simp] theorem extractLsb'_setWidth_nibble (v : Nibble) : (v.setWidth 8).extractLsb' 0 4 = v := by
  revert v; decide

/-- Each word the encoder writes has the `op` or the bits 6:4 of its row, and the fields of the operands. -/
theorem decode_encode (i : Instr) : decode (encode i) = .ok i := by
  cases i with
  | pulse => simp [encode, decode, decodeEvent_pulse]
  | tick => simp [encode, decode, decodeEvent_tick]
  | poll c => simp [encode, decode, decodeEvent_poll]
  | cfg c a t f => simp [encode, decode, decodeEvent_cfg]
  | req4 c pos v => simp [encode, decode, decodeEvent_req4]
  | req8 c x => simp [encode, decode, decodeEvent_req8]
  | rdfb c => simp [encode, decode, decodeEvent_rdfb]
  | rdok => simp [encode, decode, decodeEvent_rdok]
  | rdpar => simp [encode, decode, decodeEvent_rdpar]
  | rdpce => simp [encode, decode, decodeEvent_rdpce]
  | frameSwLo p d => simp [encode, decode, decodeFrame_swLo]
  | frameSwHi p d => simp [encode, decode, decodeFrame_swHi]
  | frameFbLo p d => simp [encode, decode, decodeFrame_fbLo]
  | frameFbHi p d => simp [encode, decode, decodeFrame_fbHi]

/-- Settles O2. -/
theorem decodeAfterEncodeIsIdentity : Obligations.DecodeAfterEncodeIsIdentity := decode_encode

/-! ## Encoding what the decoder reads -/

theorem eventWord_fields (w : EventWord) :
    eventWord (opField w) (connField w) (aField w) (bField w) (cField w) = w := by
  have join (start len₁ len₂ : Nat) :=
    @BitVec.extractLsb'_append_extractLsb'_eq_extractLsb' 32 (start + len₁) start len₁ len₂ w rfl
  calc eventWord (opField w) (connField w) (aField w) (bField w) (cField w)
    _ = w.extractLsb' 0 32 := by
      unfold eventWord opField connField aField bField cField
      rw [join 24 4 4, join 16 8 8, join 8 8 16, join 0 8 24]
    _ = w := BitVec.extractLsb'_eq_self

theorem eventWord_and (o o' c c' : BitVec 4) (x x' y y' z z' : Byte) :
    eventWord o c x y z &&& eventWord o' c' x' y' z' =
      eventWord (o &&& o') (c &&& c') (x &&& x') (y &&& y') (z &&& z') := by
  unfold eventWord
  rw [← BitVec.and_append, ← BitVec.and_append, ← BitVec.and_append, ← BitVec.and_append]

/-- A mask acts on each field of a word by itself. -/
theorem and_eventWord (w : EventWord) (o c : BitVec 4) (x y z : Byte) :
    w &&& eventWord o c x y z =
      eventWord (opField w &&& o) (connField w &&& c) (aField w &&& x) (bField w &&& y) (cField w &&& z) := by
  rw [← eventWord_and, eventWord_fields]

theorem and_flagMask (x : Byte) : x &&& 0x01#8 = bitByte (x.getLsbD 0) := by
  revert x; decide

theorem and_nibbleMask (x : Byte) : x &&& 0x0F#8 = (x.extractLsb' 0 4).zeroExtend 8 := by
  revert x; decide

section
variable (w : EventWord)

theorem and_opMask : w &&& 0xF0000000#32 = eventWord (opField w) 0#4 0#8 0#8 0#8 :=
  (and_eventWord w (BitVec.allOnes 4) 0#4 0#8 0#8 0#8).trans
    (by simp only [BitVec.and_allOnes, BitVec.and_zero])

theorem and_connMask : w &&& 0xFF000000#32 = eventWord (opField w) (connField w) 0#8 0#8 0#8 :=
  (and_eventWord w (BitVec.allOnes 4) (BitVec.allOnes 4) 0#8 0#8 0#8).trans
    (by simp only [BitVec.and_allOnes, BitVec.and_zero])

theorem and_cfgMask : w &&& 0xFFFF01FF#32 =
    eventWord (opField w) (connField w) (aField w) (bitByte ((bField w).getLsbD 0)) (cField w) :=
  (and_eventWord w (BitVec.allOnes 4) (BitVec.allOnes 4) (BitVec.allOnes 8) 0x01#8 (BitVec.allOnes 8)).trans
    (by simp only [BitVec.and_allOnes, and_flagMask])

theorem and_req4Mask : w &&& 0xFF00010F#32 =
    eventWord (opField w) (connField w) 0#8 (bitByte ((bField w).getLsbD 0))
      (((cField w).extractLsb' 0 4).zeroExtend 8) :=
  (and_eventWord w (BitVec.allOnes 4) (BitVec.allOnes 4) 0#8 0x01#8 0x0F#8).trans
    (by simp only [BitVec.and_allOnes, BitVec.and_zero, and_flagMask, and_nibbleMask])

theorem and_req8Mask : w &&& 0xFF0000FF#32 = eventWord (opField w) (connField w) 0#8 0#8 (cField w) :=
  (and_eventWord w (BitVec.allOnes 4) (BitVec.allOnes 4) 0#8 0#8 (BitVec.allOnes 8)).trans
    (by simp only [BitVec.and_allOnes, BitVec.and_zero])

end

@[simp] theorem DeviceType.toBit_ofBit (b : Bool) : (DeviceType.ofBit b).toBit = b := by
  cases b <;> rfl

@[simp] theorem Position.toBit_ofBit (b : Bool) : (Position.ofBit b).toBit = b := by
  cases b <;> rfl

/-- The encoder writes the fields that the mask of the row keeps (R89). -/
theorem encode_of_decodeEvent {w : EventWord} {i : Instr} (h : decodeEvent w = .ok i) :
    encode i = .evt32 (w &&& usedBits (opField w)) := by
  rcases op_cases (opField w) with hop | hop | hop | hop | hop | hop | hop | hop | hop | hop | hop
  · cases (decodeEvent_pulse hop).symm.trans h
    simp [encode, hop, usedBits, and_opMask]
  · cases (decodeEvent_tick hop).symm.trans h
    simp [encode, hop, usedBits, and_opMask]
  · cases (decodeEvent_poll hop).symm.trans h
    simp [encode, hop, usedBits, and_connMask]
  · cases (decodeEvent_cfg hop).symm.trans h
    simp [encode, hop, usedBits, and_cfgMask]
  · cases (decodeEvent_req4 hop).symm.trans h
    simp [encode, hop, usedBits, and_req4Mask]
  · cases (decodeEvent_req8 hop).symm.trans h
    simp [encode, hop, usedBits, and_req8Mask]
  · cases (decodeEvent_rdfb hop).symm.trans h
    simp [encode, hop, usedBits, and_connMask]
  · cases (decodeEvent_rdok hop).symm.trans h
    simp [encode, hop, usedBits, and_opMask]
  · cases (decodeEvent_rdpar hop).symm.trans h
    simp [encode, hop, usedBits, and_opMask]
  · cases (decodeEvent_rdpce hop).symm.trans h
    simp [encode, hop, usedBits, and_opMask]
  · cases (decodeEvent_reserved hop).symm.trans h

theorem frameByte_fields (b : Byte) : frameByte (b.getLsbD 7) (b.extractLsb' 4 3) (b.extractLsb' 0 4) = b := by
  revert b; decide

theorem encode_of_decodeFrame {b : Byte} {i : Instr} (h : decodeFrame b = .ok i) : encode i = .frame8 b := by
  rcases ttn_cases b with hb | hb | hb | hb | hb
  · cases (decodeFrame_swLo hb).symm.trans h
    rw [encode, ← hb, frameByte_fields]
  · cases (decodeFrame_swHi hb).symm.trans h
    rw [encode, ← hb, frameByte_fields]
  · cases (decodeFrame_fbLo hb).symm.trans h
    rw [encode, ← hb, frameByte_fields]
  · cases (decodeFrame_fbHi hb).symm.trans h
    rw [encode, ← hb, frameByte_fields]
  · cases (decodeFrame_reserved hb).symm.trans h

/-- Settles O3, format by format. -/
theorem encodeAfterDecodeKeepsUsedBits : Obligations.EncodeAfterDecodeKeepsUsedBits :=
  ⟨fun _ _ => encode_of_decodeEvent, fun _ _ => encode_of_decodeFrame⟩

end Sys2Proof
end

/-! ## The bits of an encoded frame -/

section
namespace Sys2Proof.Machine

/-! ### Reversal and parity -/

theorem getLsbD_rev4 (v : Nibble) {j : Nat} (hj : j < 4) : (rev4 v).getLsbD j = v.getLsbD (3 - j) := by
  revert v j; decide

theorem popcount_rev4 (v : Nibble) : popcount (rev4 v) = popcount v := by
  revert v; decide

theorem popcount_append {m n : Nat} (x : BitVec m) (y : BitVec n) : popcount (x ++ y) = popcount x + popcount y := by
  have low : ∀ i ∈ List.range n, (x ++ y).getLsbD i = y.getLsbD i := by
    intro i hi
    simp [BitVec.getLsbD_append, List.mem_range.mp hi]
  have high : ((x ++ y).getLsbD ∘ fun i => n + i) = x.getLsbD := by
    funext i
    simp [BitVec.getLsbD_append]
  have range : List.range (m + n) = List.range n ++ (List.range m).map (n + ·) := by
    rw [Nat.add_comm, List.range_add]
  rw [popcount, range, List.filter_append, List.length_append, List.filter_congr low, List.filter_map,
    List.length_map, high, Nat.add_comm]
  rfl

theorem parityBit_append {m n : Nat} (x : BitVec m) (y : BitVec n) :
    parityBit (x ++ y) = (parityBit x ^^ parityBit y) := by
  rw [parityBit, parityBit, parityBit, popcount_append, Nat.add_mod]
  rcases Nat.mod_two_eq_zero_or_one (popcount x) with hx | hx <;>
    rcases Nat.mod_two_eq_zero_or_one (popcount y) with hy | hy <;> simp [hx, hy]

theorem parityBit_nibble (d : Nibble) : parityBit d = oddNibble d := by
  revert d; decide

/-- The only bit that makes the number of ones even is the parity bit (R82). -/
theorem eq_parityBit_of_even {n : Nat} {x : Bool} {v : BitVec n} (h : popcount (BitVec.ofBool x ++ v) % 2 = 0) :
    x = parityBit v := by
  rw [popcount_ofBool_append] at h
  rw [parityBit]
  cases x <;> simp at h ⊢ <;> omega

/-! ### The fields -/

theorem frameByte_eq (p : Bool) (ttn : BitVec 3) (d : Nibble) :
    frameByte p ttn d = BitVec.ofBool p ++ (ttn ++ d) := by
  revert p ttn d; decide

section
variable (p : Params) (pos : Position) (v : Nibble) (t : DeviceType)

theorem encNib_parity : (encNib p pos v t).getLsbD 7 = parityBit (frameBody p pos v t) := by
  rw [encNib, BitVec.getLsbD_append]
  simp

theorem encNib_body : (encNib p pos v t).extractLsb' 0 7 = frameBody p pos v t :=
  BitVec.extractLsb'_append_eq_right

/-- An encoded frame, field by field (R81, R82, R101). -/
theorem encNib_eq_frameByte : encNib p pos v t =
    frameByte (parityBit (typeBits p t ++ nibbleSelect p pos) ^^ oddNibble (rev4 v))
      (typeBits p t ++ nibbleSelect p pos) (rev4 v) := by
  rw [encNib, frameBody, parityBit_append, parityBit_nibble, frameByte_eq]

@[simp] theorem lowNibble_encNib : lowNibble (encNib p pos v t) = rev4 v := by
  rw [encNib_eq_frameByte, lowNibble, frameByte_data]

theorem getLsbD_encNib {j : Nat} (hj : j < 4) : (encNib p pos v t).getLsbD j = v.getLsbD (3 - j) := by
  rw [← getLsbD_rev4 v hj, ← lowNibble_encNib p pos v t, lowNibble, BitVec.getLsbD_extractLsb']
  simp [hj]

end

/-- Settles O13, from `popcount_encNib_even`. -/
theorem encodedFrameHasEvenParity : Obligations.EncodedFrameHasEvenParity := by
  intro p pos v t
  rw [encNib_parity, encNib_body]
  exact ⟨rfl, popcount_encNib_even p pos v t⟩

/-- Settles O14, one field after the other. -/
theorem encodedFrameFieldsStandInPlace : Obligations.EncodedFrameFieldsStandInPlace := by
  intro p pos v t
  refine ⟨?_, ?_, fun j hj => getLsbD_encNib p pos v t hj⟩
  · rw [encNib_typeBits]
    cases t <;> rfl
  · rw [encNib_nibbleSelect]
    cases pos <;> rfl

/-- Settles O19: under the values of R6 the fields are those that `encode` writes for the row, and the parity of the
fixed bits 010, 011, 100 and 101 is 1, 0, 1 and 0. -/
theorem encodedFramesAreTheTableRows : Obligations.EncodedFramesAreTheTableRows := by
  intro v
  have swLo : encNib Config.params .low v .switch = frameByte (true ^^ oddNibble (rev4 v)) 0b010#3 (rev4 v) :=
    encNib_eq_frameByte ..
  have swHi : encNib Config.params .high v .switch = frameByte (false ^^ oddNibble (rev4 v)) 0b011#3 (rev4 v) :=
    encNib_eq_frameByte ..
  have fbLo : encNib Config.params .low v .feedback = frameByte (true ^^ oddNibble (rev4 v)) 0b100#3 (rev4 v) :=
    encNib_eq_frameByte ..
  have fbHi : encNib Config.params .high v .feedback = frameByte (false ^^ oddNibble (rev4 v)) 0b101#3 (rev4 v) :=
    encNib_eq_frameByte ..
  rw [swLo, swHi, fbLo, fbHi]
  refine ⟨⟨_, decode_encode (.frameSwLo _ _), ?_⟩, ⟨_, decode_encode (.frameSwHi _ _), ?_⟩,
    ⟨_, decode_encode (.frameFbLo _ _), ?_⟩, ⟨_, decode_encode (.frameFbHi _ _), ?_⟩⟩
  all_goals simp [Instr.wellFormed]

/-! ### The mirror -/

theorem getLsbD_mirror8 (v : Byte) {i : Nat} (hi : i < 8) : (mirror8 v).getLsbD i = v.getLsbD (7 - i) := by
  rw [mirror8_eq, BitVec.getLsbD_append]
  split
  case isTrue hlow =>
    rw [getLsbD_rev4 _ hlow, highNibble, BitVec.getLsbD_extractLsb']
    simp [show 3 - i < 4 by omega, show 4 + (3 - i) = 7 - i by omega]
  case isFalse hhigh =>
    rw [getLsbD_rev4 _ (by omega), lowNibble, BitVec.getLsbD_extractLsb']
    simp [show 3 - (i - 4) = 7 - i by omega, show 7 - i < 4 by omega]

theorem popcount_mirror8 (v : Byte) : popcount (mirror8 v) = popcount v := by
  calc popcount (mirror8 v)
    _ = popcount (highNibble v ++ lowNibble v) := by
      rw [mirror8_eq, popcount_append, popcount_append, popcount_rev4, popcount_rev4, Nat.add_comm]
    _ = popcount v := by rw [nibbles_append]

/-- The payload is read back from its two frames (R103). -/
theorem decodePayload_encByte (p : Params) (x : Byte) (t : DeviceType) :
    decodePayload (encByte p x t).1 (encByte p x t).2 = x := by
  simp [decodePayload, encByte]

/-- Settles O17: mirroring twice changes nothing, so the payload is read from the frames as they were encoded. -/
theorem mirrorReversesTheByte : Obligations.MirrorReversesTheByte := by
  refine ⟨fun v => ⟨fun i hi => getLsbD_mirror8 v hi, popcount_mirror8 v⟩, fun p b => rfl, fun p x t => ?_, ?_, ?_⟩
  · rw [mirror8_mirror8, mirror8_mirror8, decodePayload_encByte]
  · decide
  · decide

/-! ### The frame space -/

theorem byte_fields (b : Byte) :
    b = BitVec.ofBool (b.getLsbD 7) ++ (b.extractLsb' 5 2 ++ b.extractLsb' 4 1 ++ lowNibble b) := by
  revert b; decide

/-- The legal frames are those the encoder makes, for every value of the parameters: the type bits and the nibble-select
name a type and a position, the data bits a payload, and the rest is the parity bit (R86). -/
theorem legalFrame_iff (p : Params) (b : Byte) : legalFrame p b = true ↔ ∃ pos v t, b = encNib p pos v t := by
  constructor
  · intro h
    simp only [legalFrame, Bool.and_eq_true, Bool.or_eq_true, beq_iff_eq] at h
    obtain ⟨⟨htype, hsel⟩, heven⟩ := h
    obtain ⟨t, ht⟩ : ∃ t, b.extractLsb' 5 2 = typeBits p t :=
      htype.elim (fun h => ⟨.switch, h⟩) (fun h => ⟨.feedback, h⟩)
    obtain ⟨pos, hpos⟩ : ∃ pos, b.extractLsb' 4 1 = nibbleSelect p pos :=
      hsel.elim (fun h => ⟨.low, h⟩) (fun h => ⟨.high, h⟩)
    have hb : b = BitVec.ofBool (b.getLsbD 7) ++ frameBody p pos (rev4 (lowNibble b)) t := by
      rw [frameBody, ← ht, ← hpos, rev4_rev4]
      exact byte_fields b
    rw [hb] at heven
    refine ⟨pos, rev4 (lowNibble b), t, ?_⟩
    rw [encNib, ← eq_parityBit_of_even heven]
    exact hb
  · rintro ⟨pos, v, t, rfl⟩
    exact legalFrame_encNib p pos v t

/-- Settles O18: the count by evaluating `legalFrame` on the 256 bytes, the range by `legalFrame_iff`. -/
theorem frameSpaceIsTheEncodersRange : Obligations.FrameSpaceIsTheEncodersRange := by
  refine ⟨?_, legalFrame_iff Config.params⟩
  decide

end Sys2Proof.Machine
end

/-! ## The events that read and the events that are ignored -/

section
namespace Sys2Proof.Machine

theorem exec_of_conn {i : Instr} {c : ConnId} (h : i.conn = some c) (s : State) :
    ∃ f, exec i s = .next (s.onConnection c f) := by
  cases i <;> cases h <;> exact ⟨_, rfl⟩

/-- Settles O7: an event with a connection acts through `State.onConnection`. -/
theorem absentConnectionIsIgnored : Obligations.AbsentConnectionIsIgnored := by
  intro i s c hconn habsent
  obtain ⟨f, hexec⟩ := exec_of_conn hconn s
  rw [hexec, onConnection_none _ _ _ ((connAt_eq_none s c).mpr habsent)]
  rfl

/-- Settles O20, row by row. -/
theorem frameRowsAreIgnoredAsInputs : Obligations.FrameRowsAreIgnoredAsInputs := fun s p d =>
  ⟨exec_frameSwLo s p d, exec_frameSwHi s p d, exec_frameFbLo s p d, exec_frameFbHi s p d⟩

/-- Settles O51, read by read. -/
theorem readsReturnTheirRegister : Obligations.ReadsReturnTheirRegister := by
  refine ⟨fun s c k hk => ?_, exec_rdok, exec_rdpar, exec_rdpce⟩
  rw [exec_rdfb, onConnection_some _ _ _ _ hk]
  rfl

end Sys2Proof.Machine
end

/-! ## The judgement of a cycle -/

section
namespace Sys2Proof.Machine

/-! ### Pulses, whatever is sent -/

/-- The registers a pulse can write (R160, R161). -/
theorem exec_pulse_writes (s : State) : ∃ x a b tr, exec .pulse s = .next
    { s with
      pulseCount := s.pulseCount + 1#16, slot := x, slotArmed := a, byteWasSent := b, sinkTrace := tr
      rsp := 0x00#8 } := by
  rcases pulse_cases s with ⟨x, -, -, -, h⟩ | ⟨-, h⟩
  · rw [exec_pulse, h]
    exact ⟨_, _, _, _, rfl⟩
  · rw [exec_pulse, h]
    exact ⟨_, _, _, _, rfl⟩

/-- Pulses count, and otherwise write at most the slot, what was sent and the response (R160, R161). -/
theorem execAll_pulses_writes (n : Nat) (s : State) : ∃ x a b tr v, execAll (pulses n) s = .next
    { s with
      pulseCount := s.pulseCount + BitVec.ofNat 16 n, slot := x, slotArmed := a, byteWasSent := b, sinkTrace := tr
      rsp := v } := by
  induction n generalizing s with
  | zero => exact ⟨s.slot, s.slotArmed, s.byteWasSent, s.sinkTrace, s.rsp, by simp [execAll]⟩
  | succ n ih =>
    obtain ⟨x, a, b, tr, hfirst⟩ := exec_pulse_writes s
    obtain ⟨x', a', b', tr', v', hrest⟩ := ih
      { s with
        pulseCount := s.pulseCount + 1#16, slot := x, slotArmed := a, byteWasSent := b, sinkTrace := tr
        rsp := 0x00#8 }
    have hsum : s.pulseCount + 1#16 + BitVec.ofNat 16 n = s.pulseCount + BitVec.ofNat 16 (n + 1) := by
      rw [BitVec.add_assoc, Nat.add_comm n 1, BitVec.ofNat_add]
    refine ⟨x', a', b', tr', v', ?_⟩
    rw [pulses_succ, execAll_cons hfirst, hrest, hsum]

/-! ### The three ticks -/

/-- A tick without a new pulse in a window that has no action only counts the window (R143, R147, R150). -/
theorem exec_tick_of_quiet_window {s : State} (hsame : s.pulseCount = s.prevPulseCount) (h3 : s.nextWindow ≠ 3)
    (h5 : s.nextWindow ≠ 5) (h7 : s.nextWindow ≠ 7) : exec .tick s = .next (s.countWindow.respond 0x00#8) := by
  rcases tick_cases s with ⟨hdiff, -⟩ | ⟨-, ⟨h, -⟩ | ⟨h, -⟩ | ⟨h, -⟩ | ⟨h, -⟩ | ⟨-, -, -, hs⟩⟩
  · exact absurd hsame hdiff
  · exact absurd h h3
  · exact absurd h h3
  · exact absurd h h5
  · exact absurd h h7
  · rw [exec_tick, hs]

/-- The first tick of a silence enters window 1: it sees pulses, or the window was 0 (R141, R142). -/
theorem exec_tick_enters_window_one {s : State} (h : s.pulseCount ≠ s.prevPulseCount ∨ s.idleWindowCount = 0#8) :
    exec .tick s = .next { s with prevPulseCount := s.pulseCount, idleWindowCount := 1#8, rsp := 0x00#8 } := by
  by_cases hsame : s.pulseCount = s.prevPulseCount
  · have hw : s.nextWindow = 1 := by
      rw [State.nextWindow, h.resolve_left (absurd hsame)]
      rfl
    rw [exec_tick_of_quiet_window hsame (by omega) (by omega) (by omega), State.countWindow, hw, hsame]
    rfl
  · exact exec_tick_of_changed hsame

/-- A tick that enters window 3 after a wrong total, whole (R145, R146). -/
theorem exec_tick_of_bad_boundary {s : State} (hsame : s.pulseCount = s.prevPulseCount) (hw : s.nextWindow = 3)
    (hbad : s.pulseCount ≠ 130#16) :
    exec .tick s = .next
      { s with
        signalIsOk := s.signalIsOk && !s.triggers s.params.policyPulseCount
        pulseCountErrorCount := s.pulseCountErrorCount + 1#8
        idleWindowCount := 3#8, pulseCount := 0#16, prevPulseCount := 0#16, rsp := 0x00#8 } := by
  rcases tick_cases s with ⟨hdiff, -⟩ | ⟨-, ⟨-, hgood, -⟩ | ⟨-, -, hs⟩ | ⟨h5, -⟩ | ⟨h7, -⟩ | ⟨h3, -⟩⟩
  · exact absurd hsame hdiff
  · exact absurd hgood hbad
  · rw [exec_tick, hs, pulseCountError_eq, State.countWindow, hw]
    rfl
  · omega
  · omega
  · exact absurd hw h3

/-- The silence after a wrong total: the third tick counts the error and applies the policy (R141 to R146). The silence
after a good one is `execAll_silence_good`. -/
theorem execAll_silence_bad {s : State} (hbad : s.pulseCount ≠ 130#16)
    (h : s.pulseCount ≠ s.prevPulseCount ∨ s.idleWindowCount = 0#8) :
    execAll (silence 3) s = .next
      { s with
        signalIsOk := s.signalIsOk && !s.triggers s.params.policyPulseCount
        pulseCountErrorCount := s.pulseCountErrorCount + 1#8
        idleWindowCount := 3#8, pulseCount := 0#16, prevPulseCount := 0#16, rsp := 0x00#8 } := by
  calc execAll (silence 3) s
    _ = execAll (silence 2) { s with prevPulseCount := s.pulseCount, idleWindowCount := 1#8, rsp := 0x00#8 } :=
      execAll_cons (exec_tick_enters_window_one h) _
    _ = execAll (silence 1) { s with prevPulseCount := s.pulseCount, idleWindowCount := 2#8, rsp := 0x00#8 } :=
      execAll_cons (exec_tick_of_window_two rfl rfl) _
    _ = _ :=
      execAll_cons (s := { s with prevPulseCount := s.pulseCount, idleWindowCount := 2#8, rsp := 0x00#8 })
        (exec_tick_of_bad_boundary rfl rfl hbad) []

/-- Settles O37: the pulses leave the count `n` modulo 2^16, and the silence judges it. -/
theorem threeSilentTicksJudgeTheCycle : Obligations.ThreeSilentTicksJudgeTheCycle := by
  intro s n hcount hprev hstart
  obtain ⟨x, a, b, tr, v, hpulses⟩ := execAll_pulses_writes n s
  rw [execAll_append _ _ _ _ hpulses, hcount, BitVec.zero_add]
  by_cases hgood : n % 65536 = 130
  · have htotal : BitVec.ofNat 16 n = 130#16 := BitVec.eq_of_toNat_eq hgood
    have hnew : s.prevPulseCount ≠ 130#16 := ne_of_eq_of_ne hprev (by decide)
    exact ⟨_, execAll_silence_good htotal hnew, rfl, rfl, rfl, rfl, rfl, fun _ => ⟨rfl, rfl⟩,
      fun hbad => absurd hgood hbad⟩
  · have htotal : BitVec.ofNat 16 n ≠ 130#16 := fun h => hgood (congrArg BitVec.toNat h)
    have hfirst : BitVec.ofNat 16 n ≠ s.prevPulseCount ∨ s.idleWindowCount = 0#8 := by
      rw [hprev]
      exact hstart.imp_left fun hn h => hn (congrArg BitVec.toNat h)
    refine ⟨_, execAll_silence_bad htotal hfirst, rfl, rfl, rfl, rfl, rfl, fun h => absurd h hgood,
      fun _ => ⟨rfl, ?_, ?_, ?_⟩⟩
    all_goals
      intro hpolicy
      simp [hpolicy, State.triggers]

end Sys2Proof.Machine
end

/-! ## The encoder is injective and the decoder inverts it -/

section
namespace Sys2Proof.Machine

theorem typeBits_inj {p : Params} (hne : p.ttSwitch ≠ p.ttFeedback) {t t' : DeviceType} :
    typeBits p t = typeBits p t' ↔ t = t' := by
  cases t <;> cases t' <;> simp [typeBits, hne, hne.symm]

theorem nibbleSelect_inj {p : Params} (hne : p.nselLow ≠ p.nselHigh) {pos pos' : Position} :
    nibbleSelect p pos = nibbleSelect p pos' ↔ pos = pos' := by
  cases pos <;> cases pos' <;> simp [nibbleSelect, hne, hne.symm]

theorem rev4_inj {v v' : Nibble} : rev4 v = rev4 v' ↔ v = v' :=
  (Function.LeftInverse.injective rev4_rev4).eq_iff

/-- Settles O15: each operand can be read back from its own field of the frame. -/
theorem encodeNibbleIsInjective : Obligations.EncodeNibbleIsInjective := by
  intro p pos v t pos' v' t' htype hsel h
  have hn : nibbleSelect p pos = nibbleSelect p pos' := by
    simpa only [encNib_nibbleSelect] using congrArg (BitVec.extractLsb' 4 1) h
  have hd : rev4 v = rev4 v' := by
    simpa only [lowNibble_encNib] using congrArg lowNibble h
  have ht : typeBits p t = typeBits p t' := by
    simpa only [encNib_typeBits] using congrArg (BitVec.extractLsb' 5 2) h
  exact ⟨(nibbleSelect_inj hsel).mp hn, rev4_inj.mp hd, (typeBits_inj htype).mp ht⟩

/-- Settles O16: the payload by `decodePayload_encByte`, each check by the field of the encoded frame it reads. -/
theorem payloadRoundTrip : Obligations.PayloadRoundTrip := by
  intro p x t
  have hsameType : (encByte p x t).1.extractLsb' 5 2 = (encByte p x t).2.extractLsb' 5 2 :=
    (encNib_typeBits p .low _ t).trans (encNib_typeBits p .high _ t).symm
  exact ⟨decodePayload_encByte p x t, encNib_nibbleSelect p .low _ t, encNib_nibbleSelect p .high _ t, hsameType,
    popcount_encNib_even p .low _ t, popcount_encNib_even p .high _ t⟩

end Sys2Proof.Machine
end

/-! ## The transmit queue -/

section
namespace Sys2Proof.Machine

/-! ### One step of a sequence of queue operations -/

@[simp] theorem runQueue_nil (q : List Byte) : runQueue [] q = ⟨[], [], q⟩ := rfl

theorem runQueue_push_of_room {q : List Byte} (h : q.length < 16) (b : Byte) (ops : List QueueOp) :
    runQueue (.push b :: ops) q =
      { runQueue ops (q ++ [b]) with accepted := b :: (runQueue ops (q ++ [b])).accepted } := by
  rw [runQueue, push_of_room q b h]
  exact if_pos h

theorem runQueue_push_of_full {q : List Byte} (h : 16 ≤ q.length) (b : Byte) (ops : List QueueOp) :
    runQueue (.push b :: ops) q = runQueue ops q := by
  rw [runQueue, push_of_full q b h]
  exact if_neg (Nat.not_lt.mpr h)

@[simp] theorem runQueue_pop_nil (ops : List QueueOp) : runQueue (.pop :: ops) [] = runQueue ops [] := rfl

@[simp] theorem runQueue_pop_cons (f : Byte) (q : List Byte) (ops : List QueueOp) :
    runQueue (.pop :: ops) (f :: q) = { runQueue ops q with returned := f :: (runQueue ops q).returned } := rfl

/-! ### The order -/

/-- A push that enters moves its byte from the accepted bytes to the young end of the queue; a pop of an entry moves it
from the old end of the queue to the returned bytes; neither changes the concatenation (R114). -/
theorem append_accepted_eq_returned_append (ops : List QueueOp) (q : List Byte) :
    q ++ (runQueue ops q).accepted = (runQueue ops q).returned ++ (runQueue ops q).queue := by
  induction ops generalizing q with
  | nil => rw [runQueue_nil, List.append_nil, List.nil_append]
  | cons op ops ih =>
    cases op with
    | push b =>
      rcases Nat.lt_or_ge q.length 16 with hroom | hfull
      · rw [runQueue_push_of_room hroom, ← ih (q ++ [b])]
        exact List.append_cons q b _
      · rw [runQueue_push_of_full hfull, ih]
    | pop =>
      cases q with
      | nil => rw [runQueue_pop_nil, ih]
      | cons f q => rw [runQueue_pop_cons, List.cons_append, List.cons_append, ih]

/-- Settles O22: from an empty queue, the bytes still queued are what the returned ones lack of the accepted ones. -/
theorem queueKeepsTheOrder : Obligations.QueueKeepsTheOrder := by
  intro ops q
  have horder := append_accepted_eq_returned_append ops q
  refine ⟨horder, ?_⟩
  rintro rfl
  exact ⟨(runQueue ops []).queue, horder.symm⟩

/-- Settles O21, from the rules of `push` and `pop`. -/
theorem pushAndPopAtTheEnds : Obligations.PushAndPopAtTheEnds := by
  intro q b
  refine ⟨fun hroom => ?_, push_of_full q b, pop_nil, pop_cons b q⟩
  have hpush : push q b = q ++ [b] := push_of_room q b (Nat.lt_succ_of_le hroom)
  exact ⟨hpush, by rw [hpush, size_eq, size_eq, List.length_append, List.length_singleton]⟩

end Sys2Proof.Machine
end

/-! # Proofs: the events of a connection

The parts: the claim on the slot (R120, R124), the poll branch by branch (R123 to R130), the configuration (R120), the
requests (R121, R122), the table of the connection states (R133), and the way of a byte from its handoff to its pulse
under `ARM_POLICY = Immediate` (R28, R160). -/

/-! ## The claim on the slot -/

section
namespace Sys2Proof.Machine

section
variable {s : State} {k : Connection}

theorem releaseClaim_of_claim {x : Slot} (hslot : s.slot = some x) (haddr : x.addr = k.address) :
    s.releaseClaim k = s.emptySlot := by
  have hclaim : s.holdsClaim k = true := (holdsClaim_iff s k).mpr ⟨x, hslot, haddr⟩
  rw [State.releaseClaim, if_pos hclaim]

theorem releaseClaim_of_no_claim (hno : s.slot = none ∨ ∃ x, s.slot = some x ∧ x.addr ≠ k.address) :
    s.releaseClaim k = s := by
  have hclaim : ¬ s.holdsClaim k = true := by
    rw [holdsClaim_iff]
    rintro ⟨x, hslot, haddr⟩
    rcases hno with hnone | ⟨y, hslot', hne⟩
    · exact Option.some_ne_none x (hslot.symm.trans hnone)
    · obtain rfl : x = y := Option.some.inj (hslot.symm.trans hslot')
      exact hne haddr
  rw [State.releaseClaim, if_neg hclaim]

end

end Sys2Proof.Machine
end

/-! ## The poll, branch by branch -/

section
namespace Sys2Proof.Machine

section
variable {s : State} {c : ConnId} {k : Connection}

theorem exec_poll_of_connAt (hk : s.connAt c = some k) : exec (.poll c) s = .next ((s.poll c k).respond 0x00#8) := by
  rw [exec_poll, onConnection_some _ _ _ _ hk]

theorem poll_of_desynchronised (hlost : s.signalIsOk = false) : s.poll c k = s.enterCascade c k := by
  simp [State.poll, hlost]

theorem poll_of_unsynchronized (hok : s.signalIsOk = true) (hst : k.state = .unsynchronized) :
    s.poll c k = s.requestFeedback c k := by
  simp [State.poll, State.pollSynchronised, hok, hst]

theorem poll_of_feedbackNeeded (hok : s.signalIsOk = true) (hst : k.state = .feedbackNeeded) :
    s.poll c k = if k.feedbackRequested then s else s.setConn c { k with state := .sendingNibble1 } := by
  simp [State.poll, State.pollSynchronised, hok, hst]

/-- In the last three states a synchronised poll is a handoff, and nothing but one (R127, R128, R129). -/
theorem poll_of_handsOff (hok : s.signalIsOk = true) (hst : k.handsOff) : ∃ n, s.poll c k = s.handoffTo c k n := by
  rcases hst with hst | hst | hst
  · exact ⟨.sendingNibble2, by simp [State.poll, State.pollSynchronised, hok, hst]⟩
  · exact ⟨.connected, by simp [State.poll, State.pollSynchronised, hok, hst]⟩
  · exact ⟨.connected, by simp [State.poll, State.pollSynchronised, hok, hst]⟩

theorem handoffTo_of_not_ready {n : ConnState} (h : ¬ s.canHandoff k = true) : s.handoffTo c k n = s := by
  simp [State.handoffTo, State.tryHandoff, h]

end

/-- Settles O38: the two cases are those of releasing a claim. -/
theorem pollWhileDesynchronised : Obligations.PollWhileDesynchronised := by
  intro s c k hk hlost
  rw [exec_poll_of_connAt hk, poll_of_desynchronised hlost, State.enterCascade]
  refine ⟨fun x hslot haddr => ?_, fun hno => ?_⟩
  · rw [releaseClaim_of_claim hslot haddr]
    rfl
  · rw [releaseClaim_of_no_claim hno]
    rfl

/-- Settles O39: the first step of the way back. -/
theorem pollRaisesTheRequest : Obligations.PollRaisesTheRequest := by
  intro s c k hk hok hst
  rw [exec_poll_of_connAt hk, poll_of_unsynchronized hok hst]
  rfl

/-- Settles O40, by the value of the request. -/
theorem pollWaitsForTheAnswer : Obligations.PollWaitsForTheAnswer := by
  intro s c k hk hok hst
  rw [exec_poll_of_connAt hk, poll_of_feedbackNeeded hok hst]
  refine ⟨fun hreq => ?_, fun hreq => ?_⟩
  · rw [hreq]
    rfl
  · rw [hreq]
    rfl

/-- Settles O41: with all that a handoff needs, the poll answers `State.handedOver`, whose next state depends on the
state it finds. -/
theorem pollHandsTheOldestFrameOver : Obligations.PollHandsTheOldestFrameOver := by
  intro s c k f q hk hok hq hslot hlow hhigh
  have hexec (hst : k.handsOff) : exec (.poll c) s = .next ((s.handedOver c k f q).respond 0x00#8) :=
    exec_poll_of_ready hk hok hst hq hslot hlow hhigh
  refine ⟨fun hst => ?_, fun hst => ?_⟩
  · rw [hexec (.inl hst), State.handedOver, if_pos hst]
    rfl
  · have hne : k.state ≠ .sendingNibble1 := by rcases hst with hst | hst <;> simp [hst]
    rw [hexec (.inr hst), State.handedOver, if_neg hne]
    rfl

/-- Settles O42: each of the failing conditions contradicts one of the conditions of a handoff. -/
theorem pollWithoutAHandoffChangesNothing : Obligations.PollWithoutAHandoffChangesNothing := by
  intro s c k hk hok hst hfail
  have hcannot : ¬ s.canHandoff k = true := by
    rw [canHandoff_iff]
    rintro ⟨hqueue, hslot, hlow, hhigh⟩
    rcases hfail with hempty | hheld | hzero | hbeyond
    · exact hqueue hempty
    · exact hheld hslot
    · omega
    · omega
  obtain ⟨n, hpoll⟩ := poll_of_handsOff (c := c) hok hst
  rw [exec_poll_of_connAt hk, hpoll, handoffTo_of_not_ready hcannot]
  rfl

end Sys2Proof.Machine
end

/-! ## The configuration -/

section
namespace Sys2Proof.Machine

theorem exec_cfg_of_connAt {s : State} {c : ConnId} {k : Connection} (hk : s.connAt c = some k) (a : Byte)
    (d : DeviceType) (f : Byte) :
    exec (.cfg c a d f) s = .next ((s.configure c k a d f).respond 0x00#8) := by
  rw [exec_cfg, onConnection_some _ _ _ _ hk]

/-- Settles O48: the claim is judged by the record found, which still has the old address. -/
theorem configureResult : Obligations.ConfigureResult := by
  intro s c k a d f hk
  rw [exec_cfg_of_connAt hk, State.configure]
  refine ⟨fun x hslot haddr => ?_, fun hno => ?_⟩
  · rw [releaseClaim_of_claim hslot haddr]
    rfl
  · rw [releaseClaim_of_no_claim hno]
    rfl

end Sys2Proof.Machine
end

/-! ## The requests -/

section
namespace Sys2Proof.Machine

/-- Enqueueing writes the queue and no other register of the connection (R104). -/
theorem enqueue_eq (k : Connection) (f : Byte) :
    enqueue k f =
      { k with queue := k.queue ++ List.replicate (min (k.fecFactor.toNat + 1) (16 - k.queue.length)) f } := by
  rw [enqueue, pushCopies_eq]

/-- Settles O49: one enqueueing of the encoded frame. -/
theorem requestNibbleResult : Obligations.RequestNibbleResult := by
  intro s c k pos v hk
  rw [exec_req4, onConnection_some _ _ _ _ hk, State.requestNibble, enqueue_eq]
  rfl

/-- Settles O50: the high frame is enqueued on what the enqueueing of the low frame leaves. -/
theorem requestByteResult : Obligations.RequestByteResult := by
  rintro s c k x q₁ q₂ hk rfl rfl
  rw [exec_req8, onConnection_some _ _ _ _ hk, State.requestByte, enqueue_eq, enqueue_eq]
  rfl

end Sys2Proof.Machine
end

/-! ## The table of the connection states -/

section
namespace Sys2Proof.Machine

section
variable {s : State} {c : ConnId} {k k' : Connection}

/-- A handoff goes to the next state where it can be made (R127 to R130). -/
theorem handoffTo_state {n : ConnState} (hk : s.connAt c = some k) (hk' : (s.handoffTo c k n).connAt c = some k') :
    k'.state = if s.canHandoff k then n else k.state := by
  by_cases hcan : s.canHandoff k = true
  · obtain ⟨hqueue, hslot, hlow, hhigh⟩ := (canHandoff_iff s k).mp hcan
    obtain ⟨f, q, hq⟩ := List.exists_cons_of_ne_nil hqueue
    rw [handoffTo_of_ready hq hslot hlow hhigh] at hk'
    obtain rfl := eq_of_connAt_setConn hk hk' rfl
    rw [if_pos hcan]
  · rw [handoffTo_of_not_ready hcan, hk] at hk'
    cases hk'
    rw [if_neg hcan]

/-- A poll leaves the connection in the state that the table gives for the one it finds (R133). -/
theorem poll_state (hk : s.connAt c = some k) (hk' : (s.poll c k).connAt c = some k') : k'.state = pollTarget s k := by
  rcases poll_cases s c k with
    ⟨hlost, hs⟩ | ⟨hok, ⟨hst, hs⟩ | ⟨hst, hreq, hs⟩ | ⟨hst, hreq, hs⟩ | ⟨hst, hs⟩ | ⟨hst | hst, hs⟩⟩ <;> rw [hs] at hk'
  · obtain rfl := eq_of_connAt_setConn hk hk' (releaseClaim_conns s k)
    simp [pollTarget, hlost, desynchronised]
  · obtain rfl := eq_of_connAt_setConn hk hk' rfl
    simp [pollTarget, hok, hst]
  · rw [hk] at hk'
    cases hk'
    simp [pollTarget, hok, hst, hreq]
  · obtain rfl := eq_of_connAt_setConn hk hk' rfl
    simp [pollTarget, hok, hst, hreq]
  · simp [pollTarget, hok, hst, handoffTo_state hk hk']
  · simp [pollTarget, hok, hst, handoffTo_state hk hk']
  · simp [pollTarget, hok, hst, handoffTo_state hk hk']

/-- A synchronised poll that can hand off puts the oldest entry into the slot (R130). -/
theorem poll_slot_of_canHandoff (hok : s.signalIsOk = true) (hst : k.handsOff) (hcan : s.canHandoff k = true) :
    (s.poll c k).slot = some ⟨k.address, (pop k.queue).1⟩ := by
  obtain ⟨n, hpoll⟩ := poll_of_handsOff (c := c) hok hst
  obtain ⟨hqueue, hslot, hlow, hhigh⟩ := (canHandoff_iff s k).mp hcan
  obtain ⟨f, q, hq⟩ := List.exists_cons_of_ne_nil hqueue
  rw [hpoll, handoffTo_of_ready hq hslot hlow hhigh, hq]
  rfl

/-- Of the events addressed to a connection only POLL and CFG write its state (R133). -/
theorem exec_keeps_state {i : Instr} {t : State} (h : exec i s = .next t) (hk : s.connAt c = some k)
    (hk' : t.connAt c = some k') (hpoll : i ≠ .poll c) (hcfg : ∀ a d f, i ≠ .cfg c a d f) : k'.state = k.state := by
  by_cases hc : i.conn = some c
  · cases i with
    | poll d =>
      cases hc
      exact absurd rfl hpoll
    | cfg d a dt f =>
      cases hc
      exact absurd rfl (hcfg a dt f)
    | req4 d p v =>
      cases hc
      cases h
      rw [onConnection_some _ _ _ _ hk, respond_connAt] at hk'
      obtain rfl := eq_of_connAt_setConn hk hk' rfl
      exact enqueue_state _ _
    | req8 d x =>
      cases hc
      cases h
      rw [onConnection_some _ _ _ _ hk, respond_connAt] at hk'
      obtain rfl := eq_of_connAt_setConn hk hk' rfl
      rfl
    | rdfb d =>
      cases hc
      cases h
      rw [onConnection_some _ _ _ _ hk, respond_connAt, hk] at hk'
      cases hk'
      rfl
    | _ => cases hc
  · rw [exec_connAt_of_conn_ne h hc, hk] at hk'
    cases hk'
    rfl

end

/-- Settles O43: the rows of POLL (`poll_state`), the row of CFG, and every other event (`exec_keeps_state`). -/
theorem connectionStatesFollowTheTable : Obligations.ConnectionStatesFollowTheTable := by
  intro i s t c k k' h hk hk'
  refine ⟨?poll, ?cfg, exec_keeps_state h hk hk'⟩
  case poll =>
    rintro rfl
    rw [exec_poll_of_connAt hk] at h
    cases h
    rw [respond_connAt] at hk'
    refine ⟨poll_state hk hk', fun hok hst => ?_, poll_slot_of_canHandoff⟩
    simp [poll_feedbackRequested hk hk', hok, hst]
  case cfg =>
    rintro a d f rfl
    rw [exec_cfg_of_connAt hk] at h
    cases h
    rw [respond_connAt] at hk'
    obtain rfl := eq_of_connAt_setConn hk hk' (releaseClaim_conns s k)
    rfl

end Sys2Proof.Machine
end

/-! ## From a handoff to its pulse (`ARM_POLICY = Immediate`) -/

section
namespace Sys2Proof.Machine

/-- Settles O47: the handoff leaves the slot armed, and from the count it finds the address lies ahead. -/
theorem handedOverByteGoesOutOnItsPulse : Obligations.HandedOverByteGoesOutOnItsPulse := by
  intro s c k f q hk hok hst hq hslot hhigh hahead himmediate
  have hpoll := exec_poll_of_ready hk hok hst hq hslot (Nat.one_le_of_lt hahead) hhigh
  have harmed : armedOnFill s.params = true := by simp [armedOnFill, himmediate]
  have hsend := execAll_pulses_send (s := (s.handedOver c k f q).respond 0x00#8) rfl harmed hahead
  exact ⟨_, (execAll_cons hpoll _).trans hsend, rfl, rfl, rfl, rfl, rfl, rfl⟩

end Sys2Proof.Machine
end

/-! # Proofs: the sync monitor

The parts: the whole result of a tick in each window (R141 to R150), the gap of a lost signal (R148, R149), the ghost
label (R155), and what sets `signalIsOk` (R144). -/

/-! ## The whole result of a tick -/

section
namespace Sys2Proof.Machine

section
variable {s : State}

/-- Below the saturation, the window entered tells the window left (R142). -/
theorem nextWindow_eq_succ_iff {n : Nat} (hn : n < 7) :
    s.nextWindow = n + 1 ↔ s.idleWindowCount = BitVec.ofNat 8 n := by
  have hnext : s.nextWindow = min (s.idleWindowCount.toNat + 1) 8 := rfl
  rw [hnext, ← BitVec.toNat_inj, BitVec.toNat_ofNat]
  omega

theorem nextWindow_eq_three_iff : s.nextWindow = 3 ↔ s.idleWindowCount = 2#8 := nextWindow_eq_succ_iff (by decide)

theorem nextWindow_eq_five_iff : s.nextWindow = 5 ↔ s.idleWindowCount = 4#8 := nextWindow_eq_succ_iff (by decide)

/-- `signalIsOk` after a policy, as the rule words it (R152). -/
theorem signalIsOk_and_not_triggers (p : Policy) :
    (s.signalIsOk && !s.triggers p) =
      if p = .always ∨ (p = .ifJustTransmitted ∧ s.byteWasSent = true) then false else s.signalIsOk := by
  by_cases h : p = .always ∨ (p = .ifJustTransmitted ∧ s.byteWasSent = true)
  · rw [if_pos h, (triggers_iff s p).mpr h, Bool.not_true, Bool.and_false]
  · rw [if_neg h, Bool.eq_false_iff.mpr (mt (triggers_iff s p).mp h), Bool.not_false, Bool.and_true]

/-- A tick that enters window 5 (R148). -/
theorem exec_tick_of_parity_window (hsame : s.pulseCount = s.prevPulseCount) (hw : s.nextWindow = 5) :
    exec .tick s = .next (s.countWindow.parityWindow.respond 0x00#8) := by
  rcases tick_cases s with ⟨hdiff, -⟩ | ⟨-, ⟨h3, -⟩ | ⟨h3, -⟩ | ⟨-, hs⟩ | ⟨h7, -⟩ | ⟨-, h5, -⟩⟩
  · exact absurd hsame hdiff
  · omega
  · omega
  · rw [exec_tick, hs]
  · omega
  · exact absurd hw h5

/-- A tick that enters window 7 (R149). -/
theorem exec_tick_of_loss_window (hsame : s.pulseCount = s.prevPulseCount) (hw : s.nextWindow = 7) :
    exec .tick s = .next (s.countWindow.lossWindow.respond 0x00#8) := by
  rcases tick_cases s with ⟨hdiff, -⟩ | ⟨-, ⟨h3, -⟩ | ⟨h3, -⟩ | ⟨h5, -⟩ | ⟨-, hs⟩ | ⟨-, -, h7, -⟩⟩
  · exact absurd hsame hdiff
  · omega
  · omega
  · omega
  · rw [exec_tick, hs]
  · exact absurd hw h7

end

/-- Settles O27: the changed branch is `State.recordPulses`. -/
theorem tickThatSawPulses : Obligations.TickThatSawPulses :=
  fun _ hdiff => exec_tick_of_changed hdiff

/-- Settles O28: the windows left are not those before 3, 5 and 7. -/
theorem tickInAQuietWindow : Obligations.TickInAQuietWindow := by
  intro s hsame h2 h4 h6
  exact exec_tick_of_quiet_window hsame (mt nextWindow_eq_three_iff.mp h2) (mt nextWindow_eq_five_iff.mp h4)
    (mt (nextWindow_eq_seven_iff s).mp h6)

/-- Settles O29: the window is counted, the total judged good, and the counts zeroed. -/
theorem tickAtAGoodBoundary : Obligations.TickAtAGoodBoundary := by
  intro s hsame h2 hgood
  have hw : s.nextWindow = 3 := nextWindow_eq_three_iff.mpr h2
  rw [exec_tick_of_good_boundary hsame hw hgood, cycleOk_eq, State.countWindow, hw]
  rfl

/-- Settles O30: the judgement of a wrong total, its policy spelled out. -/
theorem tickAtAWrongTotal : Obligations.TickAtAWrongTotal := by
  intro s hsame h2 hbad
  rw [exec_tick_of_bad_boundary hsame (nextWindow_eq_three_iff.mpr h2) hbad, signalIsOk_and_not_triggers]

/-- Settles O31: the action of window 5, its policy spelled out. -/
theorem tickAtTheParityWindow : Obligations.TickAtTheParityWindow := by
  intro s hsame h4
  have hw : s.nextWindow = 5 := nextWindow_eq_five_iff.mpr h4
  rw [exec_tick_of_parity_window hsame hw, parityWindow_eq, State.countWindow, hw, ← signalIsOk_and_not_triggers]
  rfl

/-- Settles O32: the action of window 7. -/
theorem tickAtSignalLoss : Obligations.TickAtSignalLoss := by
  intro s hsame h6
  have hw : s.nextWindow = 7 := (nextWindow_eq_seven_iff s).mpr h6
  rw [exec_tick_of_loss_window hsame hw, State.countWindow, hw]
  rfl

end Sys2Proof.Machine
end

/-! ## The gap of a lost signal -/

section
namespace Sys2Proof.Machine

/-- The two ticks after window 5 of a silence: window 6 does nothing, window 7 takes the parity error back (R147,
R149). -/
theorem execAll_ticks_to_loss {s : State} (hsame : s.pulseCount = s.prevPulseCount) (h5 : s.idleWindowCount = 5#8) :
    execAll [.tick, .tick] s = .next
      { s with
        idleWindowCount := 7#8, signalIsOk := false, parityErrorCount := s.parityErrorCount - 1#8
        byteWasSent := false, rsp := 0x00#8 } := by
  have hsix : exec .tick s = .next { s with idleWindowCount := 6#8, rsp := 0x00#8 } := by
    rw [tickInAQuietWindow s hsame (by simp [h5]) (by simp [h5]) (by simp [h5]), h5]
    rfl
  have hseven := tickAtSignalLoss { s with idleWindowCount := 6#8, rsp := 0x00#8 } hsame rfl
  exact (execAll_cons hsix _).trans (execAll_cons hseven [])

/-- Settles O33: window 5 adds one to the parity count, whatever its policy does, and window 7 takes one away. -/
theorem lostSignalRetractsTheParityError : Obligations.LostSignalRetractsTheParityError := by
  intro s hsame h4
  obtain ⟨ok, hfive⟩ : ∃ ok, exec .tick s = .next
      { s with
        idleWindowCount := 5#8, parityErrorCount := s.parityErrorCount + 1#8, signalIsOk := ok, rsp := 0x00#8 } :=
    ⟨_, tickAtTheParityWindow s hsame h4⟩
  have hretract : s.parityErrorCount + 1#8 - 1#8 = s.parityErrorCount := BitVec.add_sub_cancel _ _
  have hgap := (execAll_cons hfive _).trans (execAll_ticks_to_loss hsame rfl)
  exact ⟨⟨_, hfive, rfl⟩, _, hgap, hretract, rfl, rfl, rfl, rfl⟩

end Sys2Proof.Machine
end

/-! ## The ghost label -/

section
namespace Sys2Proof.Machine

section
variable (s : State)

/-- The ghost label, by what the tick sees and the window it enters (R155). -/
theorem tickLabel_eq :
    s.tickLabel =
      if s.pulseCount ≠ s.prevPulseCount then .none
      else if s.nextWindow = 3 then if s.pulseCount = 130#16 then .cycleOk else .pulseCountError
      else if s.nextWindow = 5 then .parityError
      else if s.nextWindow = 7 then .signalLoss
      else .none := by
  simp only [State.tickLabel, pulsesSeen_iff]
  rfl

/-- The ghost label names the branch that the tick takes (R140, R155). -/
theorem tickLabel_cases :
    (s.tickLabel = .none ∧ (s.tick = s.recordPulses ∨ s.tick = s.countWindow)) ∨
      (s.tickLabel = .cycleOk ∧ s.tick = s.countWindow.cycleOk.zeroCounts) ∨
      (s.tickLabel = .pulseCountError ∧ s.tick = s.countWindow.pulseCountError.zeroCounts) ∨
      (s.tickLabel = .parityError ∧ s.tick = s.countWindow.parityWindow) ∨
      (s.tickLabel = .signalLoss ∧ s.tick = s.countWindow.lossWindow) := by
  rcases tick_cases s with
    ⟨hdiff, hs⟩ | ⟨hsame, ⟨h3, hgood, hs⟩ | ⟨h3, hbad, hs⟩ | ⟨h5, hs⟩ | ⟨h7, hs⟩ | ⟨h3, h5, h7, hs⟩⟩
  · exact .inl ⟨by simp [tickLabel_eq, hdiff], .inl hs⟩
  · exact .inr (.inl ⟨by simp [tickLabel_eq, ← hsame, h3, hgood], hs⟩)
  · exact .inr (.inr (.inl ⟨by simp [tickLabel_eq, hsame, h3, hsame ▸ hbad], hs⟩))
  · exact .inr (.inr (.inr (.inl ⟨by simp [tickLabel_eq, hsame, h5], hs⟩)))
  · exact .inr (.inr (.inr (.inr ⟨by simp [tickLabel_eq, hsame, h7], hs⟩)))
  · exact .inl ⟨by simp [tickLabel_eq, hsame, h3, h5, h7], .inr hs⟩

/-- The pulse-count errors after a tick, by its label (R145). -/
theorem tick_pulseCountErrorCount :
    s.tick.pulseCountErrorCount =
      if s.tickLabel = .pulseCountError then s.pulseCountErrorCount + 1#8 else s.pulseCountErrorCount := by
  rcases tickLabel_cases s with ⟨hl, hs | hs⟩ | ⟨hl, hs⟩ | ⟨hl, hs⟩ | ⟨hl, hs⟩ | ⟨hl, hs⟩ <;>
    simp [hl, hs, cycleOk_eq, pulseCountError_eq, parityWindow_eq]

/-- The parity errors after a tick, by its label (R148, R149). -/
theorem tick_parityErrorCount :
    s.tick.parityErrorCount =
      if s.tickLabel = .parityError then s.parityErrorCount + 1#8
      else if s.tickLabel = .signalLoss then s.parityErrorCount - 1#8
      else s.parityErrorCount := by
  rcases tickLabel_cases s with ⟨hl, hs | hs⟩ | ⟨hl, hs⟩ | ⟨hl, hs⟩ | ⟨hl, hs⟩ | ⟨hl, hs⟩ <;>
    simp [hl, hs, cycleOk_eq, pulseCountError_eq, parityWindow_eq]

theorem tick_signalIsOk_of_cycleOk (h : s.tickLabel = .cycleOk) : s.tick.signalIsOk = true := by
  rcases tickLabel_cases s with ⟨hl, -⟩ | ⟨-, hs⟩ | ⟨hl, -⟩ | ⟨hl, -⟩ | ⟨hl, -⟩
  case inr.inl => simp [hs, cycleOk_eq]
  all_goals
    rw [h] at hl
    cases hl

theorem tick_of_label_none (h : s.tickLabel = .none) : s.tick = s.recordPulses ∨ s.tick = s.countWindow := by
  rcases tickLabel_cases s with ⟨-, hs⟩ | ⟨hl, -⟩ | ⟨hl, -⟩ | ⟨hl, -⟩ | ⟨hl, -⟩
  case inl => exact hs
  all_goals
    rw [h] at hl
    cases hl

end

/-- A counter of 8 bits that goes up by one, one that goes down by one and one that stays are three (R25, R26). -/
theorem byte_counter_moves (x : Byte) : x ≠ x + 1#8 ∧ x ≠ x - 1#8 ∧ x + 1#8 ≠ x - 1#8 := by
  refine ⟨?_, ?_, ?_⟩ <;> bv_omega

/-- Settles O34: each counter by the label (`tick_pulseCountErrorCount`, `tick_parityErrorCount`), whose moves can be
told apart. -/
theorem tickLabelSaysWhatTheTickDid : Obligations.TickLabelSaysWhatTheTickDid := by
  intro s t h
  cases h
  obtain ⟨hpulseUp, -, -⟩ := byte_counter_moves s.pulseCountErrorCount
  obtain ⟨hup, hdown, hupDown⟩ := byte_counter_moves s.parityErrorCount
  simp only [State.respond_pulseCountErrorCount, State.respond_parityErrorCount, tick_pulseCountErrorCount,
    tick_parityErrorCount]
  refine ⟨?pulseCountError, ?parityError, ?signalLoss, fun hl => ?cycleOk, fun hl => ?none⟩
  case pulseCountError => cases s.tickLabel <;> simp [hpulseUp]
  case parityError => cases s.tickLabel <;> simp [hup, hupDown.symm]
  case signalLoss => cases s.tickLabel <;> simp [hdown, hupDown]
  case cycleOk => exact ⟨tick_signalIsOk_of_cycleOk s hl, by simp [hl], by simp [hl]⟩
  case none => rcases tick_of_label_none s hl with hs | hs <;> simp [hl, hs]

end Sys2Proof.Machine
end

/-! ## What sets `signalIsOk` -/

section
namespace Sys2Proof.Machine

@[simp] theorem pulse_signalIsOk (s : State) : s.pulse.signalIsOk = s.signalIsOk := by
  rcases pulse_cases s with ⟨x, -, -, -, h⟩ | ⟨-, h⟩ <;> rw [h] <;> rfl

/-- Only TICK writes `signalIsOk` (R21, R39). -/
theorem exec_signalIsOk_of_ne_tick {i : Instr} {s t : State} (h : exec i s = .next t) (ht : i ≠ .tick) :
    t.signalIsOk = s.signalIsOk := by
  by_cases hp : i = .pulse
  · subst hp
    cases h
    exact pulse_signalIsOk s
  · obtain ⟨hkeep, -⟩ := hostEventsLeaveTheSyncState i s t h hp ht
    exact hkeep

/-- A tick that finds `signalIsOk` false and leaves it true found a good total at window 3 (R144). -/
theorem tick_gains_signalIsOk {s : State} (hold : s.signalIsOk = false) (hnew : s.tick.signalIsOk = true) :
    s.pulseCount = s.prevPulseCount ∧ s.nextWindow = 3 ∧ s.pulseCount = 130#16 := by
  rcases tick_cases s with
    ⟨-, hs⟩ | ⟨hsame, ⟨h3, hgood, -⟩ | ⟨-, -, hs⟩ | ⟨-, hs⟩ | ⟨-, hs⟩ | ⟨-, -, -, hs⟩⟩
  case inr.inl => exact ⟨hsame, h3, hgood⟩
  all_goals simp [hs, hold, pulseCountError_eq, parityWindow_eq] at hnew

/-- Settles O36: only a tick writes the flag, and only its good boundary sets it. -/
theorem synchronisationIsGainedOnlyAtAGoodBoundary : Obligations.SynchronisationIsGainedOnlyAtAGoodBoundary := by
  intro i s t h hold hnew
  by_cases ht : i = .tick
  · subst ht
    cases h
    obtain ⟨hsame, h3, hgood⟩ := tick_gains_signalIsOk hold hnew
    exact ⟨rfl, hsame, nextWindow_eq_three_iff.mp h3, hgood⟩
  · rw [exec_signalIsOk_of_ne_tick h ht, hold] at hnew
    cases hnew

end Sys2Proof.Machine
end

/-! # Proofs: the pulse handler

A pulse sends or only counts, and `exec_pulse_of_match` and `exec_pulse_of_no_match` are its whole result in the two
cases. Which case occurs is told by the slot and the count alone, so `signalIsOk` plays no part in it (R160). -/

section
namespace Sys2Proof.Machine

/-- A pulse whose number is not the address of an armed slot only counts, whole (R160, R161). -/
theorem exec_pulse_of_no_match {s : State}
    (hno : ∀ x, s.slot = some x → ¬ (s.slotArmed = true ∧ s.pulseCount + 1#16 = x.addr.zeroExtend 16)) :
    exec .pulse s = .next (s.countPulse.respond 0x00#8) := by
  rcases pulse_cases s with ⟨x, hslot, harmed, hcount, -⟩ | ⟨-, hs⟩
  · exact absurd ⟨harmed, hcount⟩ (hno x hslot)
  · rw [exec_pulse, hs]

/-- Settles O23: each of the three reasons for not sending excludes a match. -/
theorem pulseResult : Obligations.PulseResult := by
  refine fun s => ⟨fun x hslot harmed hcount => ?sends, fun hwhy => exec_pulse_of_no_match ?counts⟩
  case sends =>
    rw [hcount]
    exact exec_pulse_of_match hslot harmed hcount
  case counts =>
    rintro x hslot ⟨harmed, hcount⟩
    rcases hwhy with hempty | hunarmed | ⟨y, hy, hne⟩
    · cases hempty.symm.trans hslot
    · cases hunarmed.symm.trans harmed
    · cases hy.symm.trans hslot
      exact hne hcount

/-- Settles O24: the pulse falls into the same case with either value of the bit, and neither result writes it. -/
theorem pulseDoesNotReadSignalIsOk : Obligations.PulseDoesNotReadSignalIsOk := by
  intro s t b h
  rcases pulse_cases s with ⟨x, hslot, harmed, hcount, -⟩ | ⟨hno, -⟩
  · rw [exec_pulse_of_match hslot harmed hcount] at h
    cases h
    exact exec_pulse_of_match (s := { s with signalIsOk := b }) hslot harmed hcount
  · rw [exec_pulse_of_no_match hno] at h
    cases h
    exact exec_pulse_of_no_match (s := { s with signalIsOk := b }) hno

end Sys2Proof.Machine
end

/-! # Proofs: the words that name no event

A word is ignored for one of two reasons: the decoder refuses it for its `op`, or the event it names is addressed to a
connection that does not exist (R90, R173). -/

/-! ## The words addressed to a connection -/

section
namespace Sys2Proof

/-- The values 3 to 7 of `op` are those of the five events that use `conn` (R88). -/
theorem op_cases_of_perConnection {op : BitVec 4} (h : 3 ≤ op.toNat ∧ op.toNat ≤ 7) :
    op = 0x3#4 ∨ op = 0x4#4 ∨ op = 0x5#4 ∨ op = 0x6#4 ∨ op = 0x7#4 := by
  revert op; decide

/-- A per-connection word names an event, addressed to the connection of its `conn` field (R88, R89). -/
theorem decodeEvent_perConnection {w : EventWord} (h : 3 ≤ (opField w).toNat ∧ (opField w).toNat ≤ 7) :
    ∃ i, decodeEvent w = .ok i ∧ i.conn = some (connField w) := by
  rcases op_cases_of_perConnection h with hop | hop | hop | hop | hop
  · exact ⟨_, decodeEvent_poll hop, rfl⟩
  · exact ⟨_, decodeEvent_cfg hop, rfl⟩
  · exact ⟨_, decodeEvent_req4 hop, rfl⟩
  · exact ⟨_, decodeEvent_req8 hop, rfl⟩
  · exact ⟨_, decodeEvent_rdfb hop, rfl⟩

end Sys2Proof
end

/-! ## The words that are ignored -/

section
namespace Sys2Proof.Machine

theorem runCode_of_decode_error {c : Code} {e : DecodeError} (h : decode c = .error e) (s : State) :
    runCode c s = .next s.ignored := by
  simp [runCode, h]

/-- Settles O6: the decoder refuses a reserved `op`; a per-connection word decodes, and its event finds no connection. -/
theorem wordsNamingNoEventAreIgnored : Obligations.WordsNamingNoEventAreIgnored := by
  constructor
  · intro s w rest harr hop
    have hdec : decode (.evt32 w) = .error (.reservedOp (opField w)) := decodeEvent_reserved hop
    rw [step_of_code harr, runCode_of_decode_error hdec]
    rfl
  · intro s w rest harr hop habsent
    obtain ⟨i, hdec, hconn⟩ := decodeEvent_perConnection hop
    rw [stepRunsTheDecodedInstruction s (.evt32 w) rest i harr hdec]
    exact absentConnectionIsIgnored i { s with arrivals := rest } (connField w) hconn habsent

end Sys2Proof.Machine
end

/-! # Proofs: the cascade and the way back

This block has no exceptions; losing the synchronisation takes their place (R184). The parts: the three causes of
the loss (R189), and the cascade of one connection with its return (R190, R192). -/

/-! ## What clears `signalIsOk` -/

section
namespace Sys2Proof.Machine

section
variable {s : State}

/-- Counting the window does not change what a policy reads (R142, R152). -/
theorem countWindow_triggers (p : Policy) : s.countWindow.triggers p = s.triggers p := rfl

/-- A tick that finds `signalIsOk` true and leaves it false is one of three: a wrong total at window 3 or a parity error
at window 5, each under a policy that triggers, or the signal loss of window 7 (R189). -/
theorem tick_loses_signalIsOk (hold : s.signalIsOk = true) (hnew : s.tick.signalIsOk = false) :
    s.pulseCount = s.prevPulseCount ∧
      ((s.nextWindow = 3 ∧ s.pulseCount ≠ 130#16 ∧ s.triggers s.params.policyPulseCount = true) ∨
        (s.nextWindow = 5 ∧ s.triggers s.params.policyParity = true) ∨ s.nextWindow = 7) := by
  rcases tick_cases s with
    ⟨-, hs⟩ | ⟨hsame, ⟨-, -, hs⟩ | ⟨h3, hbad, hs⟩ | ⟨h5, hs⟩ | ⟨h7, -⟩ | ⟨-, -, -, hs⟩⟩
  case inr.inr.inl =>
    exact ⟨hsame, .inl ⟨h3, hbad, by simpa [hs, pulseCountError_eq, hold, countWindow_triggers] using hnew⟩⟩
  case inr.inr.inr.inl =>
    exact ⟨hsame, .inr (.inl ⟨h5, by simpa [hs, parityWindow_eq, hold, countWindow_triggers] using hnew⟩)⟩
  case inr.inr.inr.inr.inl => exact ⟨hsame, .inr (.inr h7)⟩
  all_goals simp [hs, hold, cycleOk_eq] at hnew

/-- Only a good boundary arms the slot, so a tick that leaves `signalIsOk` false does not touch `slotArmed` (R144). -/
theorem tick_slotArmed_of_not_ok (hnew : s.tick.signalIsOk = false) : s.tick.slotArmed = s.slotArmed := by
  rcases tick_cases s with
    ⟨-, hs⟩ | ⟨-, ⟨-, -, hs⟩ | ⟨-, -, hs⟩ | ⟨-, hs⟩ | ⟨-, hs⟩ | ⟨-, -, -, hs⟩⟩
  case inr.inl => simp [hs, cycleOk_eq] at hnew
  all_goals simp [hs, pulseCountError_eq, parityWindow_eq]

end

/-- Settles O35: only a tick writes the flag, and `tick_loses_signalIsOk` names its causes by the window entered. -/
theorem signalIsOkIsClearedByThreeCauses : Obligations.SignalIsOkIsClearedByThreeCauses := by
  intro i s t h hold hnew
  by_cases ht : i = .tick
  · subst ht
    cases h
    obtain ⟨hsame, hcause⟩ := tick_loses_signalIsOk hold hnew
    rw [nextWindow_eq_three_iff, nextWindow_eq_five_iff, nextWindow_eq_seven_iff] at hcause
    exact ⟨rfl, hsame, hcause, tick_conns s, tick_slot s, tick_slotArmed_of_not_ok hnew, tick_sinkTrace s⟩
  · rw [exec_signalIsOk_of_ne_tick h ht, hold] at hnew
    cases hnew

end Sys2Proof.Machine
end

/-! ## The cascade of one connection, and its return -/

section
namespace Sys2Proof.Machine

section
variable {s : State} {c : ConnId} {k : Connection}

/-- After a release, no byte of the connection's address is in the slot (R124). -/
theorem addr_ne_of_releaseClaim_slot {x : Slot} (h : (s.releaseClaim k).slot = some x) : x.addr ≠ k.address := by
  intro haddr
  rw [releaseClaim_of_claim (releaseClaim_slot h) haddr] at h
  cases h

/-- A connection that exists reads back as the record written to it. -/
theorem connAt_setConn_self (hk : s.connAt c = some k) (k' : Connection) : (s.setConn c k').connAt c = some k' := by
  obtain ⟨hlt, -⟩ := (connAt_eq_some s c k).mp hk
  exact List.getElem?_set_self hlt

/-- The cascade of one connection: its record is cleared, and the slot holds no byte of its address (R124, R190). -/
theorem exec_poll_enters_cascade (hk : s.connAt c = some k) (hlost : s.signalIsOk = false) :
    ∃ t, exec (.poll c) s = .next t ∧ t.connAt c = some (desynchronised k) ∧
      ∀ x, t.slot = some x → x.addr ≠ k.address := by
  have hkept : (s.releaseClaim k).connAt c = some k := (connAt_congr (releaseClaim_conns s k) c).trans hk
  refine ⟨(s.enterCascade c k).respond 0x00#8, ?_, connAt_setConn_self hkept (desynchronised k),
    fun _ hx => addr_ne_of_releaseClaim_slot hx⟩
  rw [exec_poll_of_connAt hk, poll_of_desynchronised hlost]

/-- The first step of the way back writes the connection and leaves the slot (R125, R192). -/
theorem exec_poll_requests_feedback (hk : s.connAt c = some k) (hok : s.signalIsOk = true)
    (hst : k.state = .unsynchronized) :
    ∃ u, exec (.poll c) s = .next u ∧
      u.connAt c = some { k with feedbackRequested := true, state := .feedbackNeeded } ∧ u.slot = s.slot := by
  refine ⟨(s.requestFeedback c k).respond 0x00#8, ?_, connAt_setConn_self hk _, rfl⟩
  rw [exec_poll_of_connAt hk, poll_of_unsynchronized hok hst]

end

/-- Settles O44: the first poll enters the cascade, which leaves the connection `Unsynchronized`; so the second poll,
with the signal back, raises the request and does no more. -/
theorem desynchronisedConnectionReannounces : Obligations.DesynchronisedConnectionReannounces := by
  intro s c k hk hlost
  obtain ⟨t, hfirst, hcleared, hslot⟩ := exec_poll_enters_cascade hk hlost
  obtain ⟨u, hsecond, hraised, hkept⟩ :=
    exec_poll_requests_feedback (s := { t with signalIsOk := true }) hcleared rfl rfl
  exact ⟨t, u, hfirst, hsecond, hcleared, hslot, hraised, hkept⟩

end Sys2Proof.Machine
end

/-! # Proofs: the block waits and never stops

The parts: the step with nothing arrived (R200), and the totality of every event and of the step (R220). -/

/-! ## The step with nothing arrived -/

section
namespace Sys2Proof.Machine

/-- Settles O8: of the four things a step can do, every one but waiting takes an arrival. -/
theorem stepWaitsWhenNothingArrived : Obligations.StepWaitsWhenNothingArrived := by
  intro s hnone
  rcases step_cases s with ⟨-, hs⟩ | ⟨rest, harr, -⟩ | ⟨c, rest, i, harr, -, -⟩ | ⟨c, rest, e, harr, -, -⟩
  · exact hs
  · cases hnone.symm.trans harr
  · cases hnone.symm.trans harr
  · cases hnone.symm.trans harr

end Sys2Proof.Machine
end

/-! ## Every event and every step answers a next state -/

section
namespace Sys2Proof.Machine

theorem exec_answers_next (i : Instr) (s : State) : ∃ t, exec i s = .next t := by
  obtain ⟨t, hexec, -⟩ := exec_withArrivals i s
  exact ⟨t, hexec⟩

/-- A step that waits, resets or ignores a word names its next state; one that runs an event has the event's (R65). -/
theorem step_answers_next (s : State) : s.Runs := by
  rcases step_cases s with ⟨-, hs⟩ | ⟨rest, -, hs⟩ | ⟨c, rest, i, -, -, hs⟩ | ⟨c, rest, e, -, -, hs⟩
  · exact ⟨_, hs⟩
  · exact ⟨_, hs⟩
  · obtain ⟨t, hexec⟩ := exec_answers_next i { s with arrivals := rest }
    exact ⟨t, hs.trans hexec⟩
  · exact ⟨_, hs⟩

/-- Settles O12: the events by `exec_answers_next`, and with them the steps. -/
theorem everyStepAnswersNext : Obligations.EveryStepAnswersNext :=
  ⟨step_answers_next, exec_answers_next⟩

end Sys2Proof.Machine
end
